-- ==== Sys2Proof/Word.lean ====
section
/-! DEFINITION. The word types of DFCE: a byte is 8 bits, the address field 24 bits, an operand of a
request 16 bits (spec/00_scope.md R12, spec/30_encoding.md R111). -/

namespace Sys2Proof

/-- A byte is 8 bits (R12). -/
abbrev Byte := BitVec 8

/-- A `page`, `offset` or `block` operand of a request is 16 bits (R111). -/
abbrev Operand := BitVec 16

/-- The address field `A24` is 24 bits (R12, R60). -/
abbrev Field := BitVec 24

end Sys2Proof
end

