-- ==== Sys2Proof/Config.lean ====
section
/-! DEFINITION. The configuration record `cfg` of spec/00_scope.md R10 with the values that rule gives it, and the
free values of the model: what the transport answers when no answer has been decided (spec/10_state.md R46). -/

namespace Sys2Proof

/-- One row of the geometry table: the numbers of byte-offset, page and sector address bits (R10, R132). -/
structure GeomRow where
  buffer : Nat
  page   : Nat
  sector : Nat
  deriving DecidableEq, Repr, Inhabited

/-- The two readings of the density code (R130, conflict C1). -/
inductive DensityRule where
  | mask38Shift3
  | mask3CShift2
  deriving DecidableEq, Repr, Inhabited

/-- A four-byte protection sequence (R103). -/
structure Magic where
  byte0 : Byte
  byte1 : Byte
  byte2 : Byte
  byte3 : Byte
  deriving DecidableEq, Repr, Inhabited

/-- `cfg.OPC`: one field per row of the opcode map (R100). -/
structure Opcodes where
  statusRead                  : Byte
  idRead                      : Byte
  pageRead                    : Byte
  arrayRead                   : Byte
  buffer1Read                 : Byte
  buffer2Read                 : Byte
  buffer1Write                : Byte
  buffer2Write                : Byte
  buffer1ToPageWithErase      : Byte
  buffer2ToPageWithErase      : Byte
  buffer1ToPageWithoutErase   : Byte
  buffer2ToPageWithoutErase   : Byte
  pageToBuffer1               : Byte
  pageToBuffer2               : Byte
  pageErase                   : Byte
  blockErase                  : Byte
  sectorErase                 : Byte
  comparePageToBuffer1        : Byte
  comparePageToBuffer2        : Byte
  deepPowerDown               : Byte
  resumeFromDeepPowerDown     : Byte
  enableSectorProtection      : Magic
  disableSectorProtection     : Magic
  eraseProtectionRegister     : Magic
  deriving DecidableEq, Repr, Inhabited

/-- `cfg.DUMMY`: trailing don't-care byte counts, one per operation that sends a frame (R10, R94; log 36). -/
structure Dummy where
  status        : Nat
  id            : Nat
  pageRead      : Nat
  arrayRead     : Nat
  bufferRead    : Nat
  bufferWrite   : Nat
  bufferToPage  : Nat
  pageToBuffer  : Nat
  pageErase     : Nat
  blockErase    : Nat
  sectorErase   : Nat
  compare       : Nat
  deepPowerDown : Nat
  resume        : Nat
  protection    : Nat
  deriving DecidableEq, Repr, Inhabited

/-- The configuration record of R10. -/
structure Cfg where
  geom            : Vector GeomRow 7
  densityRule     : DensityRule
  opc             : Opcodes
  dummy           : Dummy
  /-- `none`: `WAIT()` has no bound; `some n`: it raises `Timeout` after `n` busy polls (R153). -/
  pollBudget      : Option Nat
  resumeDelayUs   : Nat
  resetLowUs      : Nat
  resetSettleUs   : Nat
  resetRecoveryUs : Nat
  /-- An uninterpreted tag: no rule reads it (R65, decision D31; log 25). -/
  bitOrder        : Nat
  deriving DecidableEq, Repr

/-- The default geometry table (R132). Row 4 is the source's, the others are general knowledge G1 (PRESUMED, log 17). -/
def Config.defaultGeom : Vector GeomRow 7 :=
  #v[⟨9, 9, 2⟩, ⟨9, 10, 3⟩, ⟨9, 11, 3⟩, ⟨9, 12, 4⟩, ⟨10, 12, 4⟩, ⟨10, 13, 6⟩, ⟨11, 13, 5⟩]

/-- The opcode map's values (R100). Seven are the source's, fourteen are general knowledge G2 (PRESUMED, log 18), the
three sequences are G3 (PRESUMED, log 19). -/
def Config.defaultOpcodes : Opcodes where
  statusRead                := 0xD7
  idRead                    := 0x9F
  pageRead                  := 0xD2
  arrayRead                 := 0x0B
  buffer1Read               := 0xD4
  buffer2Read               := 0xD6
  buffer1Write              := 0x84
  buffer2Write              := 0x87
  buffer1ToPageWithErase    := 0x83
  buffer2ToPageWithErase    := 0x86
  buffer1ToPageWithoutErase := 0x88
  buffer2ToPageWithoutErase := 0x89
  pageToBuffer1             := 0x53
  pageToBuffer2             := 0x55
  pageErase                 := 0x81
  blockErase                := 0x50
  sectorErase               := 0x7C
  comparePageToBuffer1      := 0x60
  comparePageToBuffer2      := 0x61
  deepPowerDown             := 0xB9
  resumeFromDeepPowerDown   := 0xAB
  enableSectorProtection    := ⟨0x3D, 0x2A, 0x7F, 0xA9⟩
  disableSectorProtection   := ⟨0x3D, 0x2A, 0x7F, 0x9A⟩
  eraseProtectionRegister   := ⟨0x3D, 0x2A, 0x7F, 0xCF⟩

/-- The pad counts of R10: status 1, id 4, `page_read` 4, `array_read` 1, `buffer_read` 1, all others 0 (those of the
reads other than `page_read`, of `buffer_write`, transfers, erases and compare are general knowledge G4: PRESUMED,
log 20). -/
def Config.defaultDummy : Dummy where
  status        := 1
  id            := 4
  pageRead      := 4
  arrayRead     := 1
  bufferRead    := 1
  bufferWrite   := 0
  bufferToPage  := 0
  pageToBuffer  := 0
  pageErase     := 0
  blockErase    := 0
  sectorErase   := 0
  compare       := 0
  deepPowerDown := 0
  resume        := 0
  protection    := 0

/-- The value R10 gives each field of `cfg`. -/
def Config.default : Cfg where
  geom            := Config.defaultGeom
  densityRule     := .mask38Shift3
  opc             := Config.defaultOpcodes
  dummy           := Config.defaultDummy
  pollBudget      := none
  resumeDelayUs   := 40
  resetLowUs      := 10
  resetSettleUs   := 1
  resetRecoveryUs := 1
  bitOrder        := 0

/-- One answer of the transport (R14, R46), in a form that answers any call: `Sel` and `Desel` read `ok`; `Xchg` reads
`ok` and `bytes`, the bytes shifted in; `Rst` and `Wp` read `pin` (log 4). -/
structure Answer where
  ok    : Bool
  bytes : List Byte
  pin   : Bool
  deriving DecidableEq, Repr, Inhabited

/-- FREE VALUE (log 2): the transport's `n`-th answer where none has been decided; R46 constrains no answer. -/
opaque Config.freeAnswer : Nat → Answer

/-- FREE VALUE (log 4): byte `k` shifted in during the call that draws answer `n`, where the answer gives no byte `k`
(log 34: also where the frame is too short to have one). -/
opaque Config.freeByte : Nat → Nat → Byte

end Sys2Proof
end

