-- ==== Sys2Proof/Syntax.lean ====
section
/-! DEFINITION. The operations and frames of DFCE: one constructor of `Instr` per row of spec/opcode_table.json; and
the raw forms they are decoded from, the request record of spec/30_encoding.md R111 and the byte list of a frame (R90). -/

namespace Sys2Proof

/-- `h.erase_mode` and the `mode` operand (R35, R111). -/
inductive EraseMode where
  | auto
  | manual
  deriving DecidableEq, Repr, Inhabited

/-- The sector operand (R111): the two halves of sector 0, a regular sector, or the illegal `sector_kind = 3`. -/
inductive Sector where
  | s0A
  | s0B
  | sn (n : Byte)
  | illegal
  deriving DecidableEq, Repr, Inhabited

/-- One constructor per row of the opcode table. First the 23 operations of R110 and the two reserved rows, then the
24 wire frames of R100 (the names ending in `Frame`), whose operand is the address field the frame carries. -/
inductive Instr where
  | setup
  | endOp
  | setEraseMode (mode : EraseMode)
  | readStatus
  | isReady
  | waitUntilReady
  | readId
  | pageRead (page offset : Operand)
  | arrayRead (page offset : Operand)
  | bufferRead (bufferNum : Byte) (offset : Operand)
  | bufferWrite (bufferNum : Byte) (offset : Operand)
  | bufferToPage (bufferNum : Byte) (page : Operand)
  | pageToBuffer (page : Operand) (bufferNum : Byte)
  | pageErase (page : Operand)
  | blockErase (block : Operand)
  | sectorErase (sector : Sector)
  | comparePageToBuffer (page : Operand) (bufferNum : Byte)
  | deepPowerDown
  | resumeFromDeepPowerDown
  | hardReset
  | enableSectorProtection
  | disableSectorProtection
  | eraseProtectionRegister
  | reserved17
  | reserved18to1F (low : BitVec 3)
  | statusReadFrame
  | idReadFrame
  | pageReadFrame (field : Field)
  | arrayReadFrame (field : Field)
  | buffer1ReadFrame (field : Field)
  | buffer2ReadFrame (field : Field)
  | buffer1WriteFrame (field : Field)
  | buffer2WriteFrame (field : Field)
  | buffer1ToPageWithEraseFrame (field : Field)
  | buffer2ToPageWithEraseFrame (field : Field)
  | buffer1ToPageWithoutEraseFrame (field : Field)
  | buffer2ToPageWithoutEraseFrame (field : Field)
  | pageToBuffer1Frame (field : Field)
  | pageToBuffer2Frame (field : Field)
  | pageEraseFrame (field : Field)
  | blockEraseFrame (field : Field)
  | sectorEraseFrame (field : Field)
  | comparePageToBuffer1Frame (field : Field)
  | comparePageToBuffer2Frame (field : Field)
  | deepPowerDownFrame
  | resumeFromDeepPowerDownFrame
  | enableSectorProtectionFrame
  | disableSectorProtectionFrame
  | eraseProtectionRegisterFrame
  deriving DecidableEq, Repr

/-- The request record (R111), field by field as the host presents it. -/
structure Request where
  op         : BitVec 5
  page       : Operand
  offset     : Operand
  block      : Operand
  bufferNum  : Byte
  sectorKind : BitVec 2
  sectorN    : Byte
  mode       : BitVec 1
  deriving DecidableEq, Repr

/-- What is presented to DFCE before decoding: a request record (R111), or the bytes of a frame (R90; the frame port is
the model's own, log 7). -/
inductive Code where
  | request (r : Request)
  | frame (bytes : List Byte)
  deriving DecidableEq, Repr

end Sys2Proof
end

