-- ==== Sys2Proof/WellFormed.lean ====
section
/-! DEFINITION. Which instructions are well formed: the checks of spec/20_memory.md R66 and spec/60_exceptions.md R244,
R245 that need no handle. An instruction that fails one decodes and runs; what it does is answer
`PreconditionViolation`. -/

namespace Sys2Proof

/-- `buffer_num` is 0 or 1 (R12, R244). -/
def bufferNumLegal (bufferNum : Byte) : Bool := decide (bufferNum.toNat < 2)

/-- The sector operand is not the illegal kind (R245), and a regular sector is not sector 0, which exists only as its
two halves (R136, R244). -/
def Sector.wellFormed : Sector → Bool
  | .s0A => true
  | .s0B => true
  | .sn n => decide (1 ≤ n.toNat)
  | .illegal => false

/-- The checks on an instruction that do not depend on the handle (R244, R245). -/
def Instr.wellFormed : Instr → Bool
  | .bufferRead b _ => bufferNumLegal b
  | .bufferWrite b _ => bufferNumLegal b
  | .bufferToPage b _ => bufferNumLegal b
  | .pageToBuffer _ b => bufferNumLegal b
  | .comparePageToBuffer _ b => bufferNumLegal b
  | .sectorErase sector => sector.wellFormed
  | .reserved17 => false
  | .reserved18to1F _ => false
  | .setup | .endOp | .setEraseMode _ | .readStatus | .isReady | .waitUntilReady | .readId
  | .pageRead _ _ | .arrayRead _ _ | .pageErase _ | .blockErase _
  | .deepPowerDown | .resumeFromDeepPowerDown | .hardReset
  | .enableSectorProtection | .disableSectorProtection | .eraseProtectionRegister
  | .statusReadFrame | .idReadFrame | .pageReadFrame _ | .arrayReadFrame _
  | .buffer1ReadFrame _ | .buffer2ReadFrame _ | .buffer1WriteFrame _ | .buffer2WriteFrame _
  | .buffer1ToPageWithEraseFrame _ | .buffer2ToPageWithEraseFrame _
  | .buffer1ToPageWithoutEraseFrame _ | .buffer2ToPageWithoutEraseFrame _
  | .pageToBuffer1Frame _ | .pageToBuffer2Frame _
  | .pageEraseFrame _ | .blockEraseFrame _ | .sectorEraseFrame _
  | .comparePageToBuffer1Frame _ | .comparePageToBuffer2Frame _
  | .deepPowerDownFrame | .resumeFromDeepPowerDownFrame
  | .enableSectorProtectionFrame | .disableSectorProtectionFrame | .eraseProtectionRegisterFrame => true

end Sys2Proof
end

