-- ==== Sys2Proof/Decode.lean ====
section
/-! DEFINITION. The two encodings of DFCE (spec/30_encoding.md): request records (R110, R111) and frames (R90 to R105);
for each a decoder, total and rejecting by name, and an encoder written from the same tables. -/

namespace Sys2Proof

/-- `n` don't-care bytes, all `0x00` (R94). -/
def zeros (n : Nat) : List Byte := List.replicate n 0

/-- The three address bytes, most significant first (R64, R95). -/
def bytes3 (field : Field) : List Byte :=
  [field.extractLsb' 16 8, field.extractLsb' 8 8, field.extractLsb' 0 8]

/-- The address field carried by three bytes, the inverse of `bytes3` (R64). -/
def fieldOfBytes (high middle low : Byte) : Field := high ++ middle ++ low

/-- A frame with no address field: `F_OP`, `F_STATUS`, `F_ID` (R93). -/
def plainFrame (opcode : Byte) (pads : Nat) : List Byte := opcode :: zeros pads

/-- A frame with an address field: `F_ADDR`, `F_ADDR_D1`, `F_ADDR_D4` (R93). -/
def addressFrame (opcode : Byte) (field : Field) (pads : Nat) : List Byte :=
  opcode :: (bytes3 field ++ zeros pads)

/-- A protection sequence as its four bytes (R103). -/
def Magic.bytes (m : Magic) : List Byte := [m.byte0, m.byte1, m.byte2, m.byte3]

/-- A protection frame: `F_MAGIC` (R93). -/
def magicFrame (m : Magic) (pads : Nat) : List Byte := m.bytes ++ zeros pads

/-- The status frame, `[cfg.OPC.STATUS_READ, 0x00]` with the count of R10 (R90, R94, R150; log 36). -/
def statusFrame (c : Cfg) : List Byte := plainFrame c.opc.statusRead c.dummy.status

/-- The ID frame, `[cfg.OPC.ID_READ, 0x00, 0x00, 0x00, 0x00]` with the count of R10 (R90, R94, R156; log 36). -/
def idFrame (c : Cfg) : List Byte := plainFrame c.opc.idRead c.dummy.id

/-- Why a byte list is not a DFCE frame (R104). -/
inductive FrameError where
  /-- There is no first byte. -/
  | empty
  /-- The first byte is no opcode of the map. -/
  | unknownOpcode (opcode : Byte)
  /-- The first byte is an opcode, but the length or a don't-care byte is not that of its format. -/
  | wrongTail (opcode : Byte)
  /-- The first byte opens a protection sequence, but the rest is none of the three. -/
  | unknownSequence
  deriving DecidableEq, Repr

/-- The rest of a frame that carries no address field must be exactly its don't-care bytes. -/
def decodePlain (opcode : Byte) (i : Instr) (pads : Nat) (rest : List Byte) : Except FrameError Instr :=
  if rest = zeros pads then .ok i else .error (.wrongTail opcode)

/-- The rest of a frame that carries an address field: three address bytes, then exactly its don't-care bytes. -/
def decodeAddressed (opcode : Byte) (i : Field → Instr) (pads : Nat) (rest : List Byte) : Except FrameError Instr :=
  match rest with
  | high :: middle :: low :: tail =>
    if tail = zeros pads then .ok (i (fieldOfBytes high middle low)) else .error (.wrongTail opcode)
  | _ => .error (.wrongTail opcode)

/-- The three protection sequences share their first byte and are told apart by the rest (R97, R103). -/
def decodeMagic (c : Cfg) (bytes : List Byte) : Except FrameError Instr :=
  if bytes = magicFrame c.opc.enableSectorProtection c.dummy.protection then .ok .enableSectorProtectionFrame
  else if bytes = magicFrame c.opc.disableSectorProtection c.dummy.protection then .ok .disableSectorProtectionFrame
  else if bytes = magicFrame c.opc.eraseProtectionRegister c.dummy.protection then .ok .eraseProtectionRegisterFrame
  else .error .unknownSequence

/-- Decoding a frame (R97, R100, R105): the first byte tells the format. Total: a byte list that matches no row is
rejected by name (R104). -/
def decodeFrame (c : Cfg) (bytes : List Byte) : Except FrameError Instr :=
  match bytes with
  | [] => .error .empty
  | b :: rest =>
    if b = c.opc.statusRead then decodePlain b .statusReadFrame c.dummy.status rest
    else if b = c.opc.idRead then decodePlain b .idReadFrame c.dummy.id rest
    else if b = c.opc.pageRead then decodeAddressed b .pageReadFrame c.dummy.pageRead rest
    else if b = c.opc.arrayRead then decodeAddressed b .arrayReadFrame c.dummy.arrayRead rest
    else if b = c.opc.buffer1Read then decodeAddressed b .buffer1ReadFrame c.dummy.bufferRead rest
    else if b = c.opc.buffer2Read then decodeAddressed b .buffer2ReadFrame c.dummy.bufferRead rest
    else if b = c.opc.buffer1Write then decodeAddressed b .buffer1WriteFrame c.dummy.bufferWrite rest
    else if b = c.opc.buffer2Write then decodeAddressed b .buffer2WriteFrame c.dummy.bufferWrite rest
    else if b = c.opc.buffer1ToPageWithErase then
      decodeAddressed b .buffer1ToPageWithEraseFrame c.dummy.bufferToPage rest
    else if b = c.opc.buffer2ToPageWithErase then
      decodeAddressed b .buffer2ToPageWithEraseFrame c.dummy.bufferToPage rest
    else if b = c.opc.buffer1ToPageWithoutErase then
      decodeAddressed b .buffer1ToPageWithoutEraseFrame c.dummy.bufferToPage rest
    else if b = c.opc.buffer2ToPageWithoutErase then
      decodeAddressed b .buffer2ToPageWithoutEraseFrame c.dummy.bufferToPage rest
    else if b = c.opc.pageToBuffer1 then decodeAddressed b .pageToBuffer1Frame c.dummy.pageToBuffer rest
    else if b = c.opc.pageToBuffer2 then decodeAddressed b .pageToBuffer2Frame c.dummy.pageToBuffer rest
    else if b = c.opc.pageErase then decodeAddressed b .pageEraseFrame c.dummy.pageErase rest
    else if b = c.opc.blockErase then decodeAddressed b .blockEraseFrame c.dummy.blockErase rest
    else if b = c.opc.sectorErase then decodeAddressed b .sectorEraseFrame c.dummy.sectorErase rest
    else if b = c.opc.comparePageToBuffer1 then decodeAddressed b .comparePageToBuffer1Frame c.dummy.compare rest
    else if b = c.opc.comparePageToBuffer2 then decodeAddressed b .comparePageToBuffer2Frame c.dummy.compare rest
    else if b = c.opc.deepPowerDown then decodePlain b .deepPowerDownFrame c.dummy.deepPowerDown rest
    else if b = c.opc.resumeFromDeepPowerDown then decodePlain b .resumeFromDeepPowerDownFrame c.dummy.resume rest
    else if b = c.opc.enableSectorProtection.byte0 then decodeMagic c bytes
    else .error (.unknownOpcode b)

/-- The sector operand of a request (R111). -/
def decodeSector (kind : BitVec 2) (n : Byte) : Sector :=
  match kind.toNat with
  | 0 => .sn n
  | 1 => .s0A
  | 2 => .s0B
  | _ => .illegal

/-- Decoding a request record (R110, R111): each operation reads only the fields its signature names. -/
def decodeRequest (r : Request) : Instr :=
  match r.op.toNat with
  | 0x00 => .setup
  | 0x01 => .endOp
  | 0x02 => .setEraseMode (if r.mode = 0 then .auto else .manual)
  | 0x03 => .readStatus
  | 0x04 => .isReady
  | 0x05 => .waitUntilReady
  | 0x06 => .readId
  | 0x07 => .pageRead r.page r.offset
  | 0x08 => .arrayRead r.page r.offset
  | 0x09 => .bufferRead r.bufferNum r.offset
  | 0x0A => .bufferWrite r.bufferNum r.offset
  | 0x0B => .bufferToPage r.bufferNum r.page
  | 0x0C => .pageToBuffer r.page r.bufferNum
  | 0x0D => .pageErase r.page
  | 0x0E => .blockErase r.block
  | 0x0F => .sectorErase (decodeSector r.sectorKind r.sectorN)
  | 0x10 => .comparePageToBuffer r.page r.bufferNum
  | 0x11 => .deepPowerDown
  | 0x12 => .resumeFromDeepPowerDown
  | 0x13 => .hardReset
  | 0x14 => .enableSectorProtection
  | 0x15 => .disableSectorProtection
  | 0x16 => .eraseProtectionRegister
  | 0x17 => .reserved17
  | _ => .reserved18to1F (r.op.setWidth 3)

/-- Decoding whatever is presented to DFCE. -/
def decode (c : Cfg) : Code → Except FrameError Instr
  | .request r => .ok (decodeRequest r)
  | .frame bytes => decodeFrame c bytes

/-- A request with code `op` and every operand field 0. -/
def bareRequest (op : BitVec 5) : Request := ⟨op, 0, 0, 0, 0, 0, 0, 0⟩

/-- The `mode` bit (R111). -/
def EraseMode.bit : EraseMode → BitVec 1
  | .auto => 0
  | .manual => 1

/-- The sector operand as `(sector_kind, sector_n)` (R111). -/
def Sector.fields : Sector → BitVec 2 × Byte
  | .sn n => (0, n)
  | .s0A => (1, 0)
  | .s0B => (2, 0)
  | .illegal => (3, 0)

/-- The encoder: the request record or the frame bytes of an instruction (R100, R110, R111). Fields an operation does
not read are 0. -/
def encode (c : Cfg) : Instr → Code
  | .setup => .request (bareRequest 0x00)
  | .endOp => .request (bareRequest 0x01)
  | .setEraseMode m => .request { bareRequest 0x02 with mode := m.bit }
  | .readStatus => .request (bareRequest 0x03)
  | .isReady => .request (bareRequest 0x04)
  | .waitUntilReady => .request (bareRequest 0x05)
  | .readId => .request (bareRequest 0x06)
  | .pageRead p o => .request { bareRequest 0x07 with page := p, offset := o }
  | .arrayRead p o => .request { bareRequest 0x08 with page := p, offset := o }
  | .bufferRead b o => .request { bareRequest 0x09 with bufferNum := b, offset := o }
  | .bufferWrite b o => .request { bareRequest 0x0A with bufferNum := b, offset := o }
  | .bufferToPage b p => .request { bareRequest 0x0B with bufferNum := b, page := p }
  | .pageToBuffer p b => .request { bareRequest 0x0C with page := p, bufferNum := b }
  | .pageErase p => .request { bareRequest 0x0D with page := p }
  | .blockErase b => .request { bareRequest 0x0E with block := b }
  | .sectorErase s => .request { bareRequest 0x0F with sectorKind := s.fields.1, sectorN := s.fields.2 }
  | .comparePageToBuffer p b => .request { bareRequest 0x10 with page := p, bufferNum := b }
  | .deepPowerDown => .request (bareRequest 0x11)
  | .resumeFromDeepPowerDown => .request (bareRequest 0x12)
  | .hardReset => .request (bareRequest 0x13)
  | .enableSectorProtection => .request (bareRequest 0x14)
  | .disableSectorProtection => .request (bareRequest 0x15)
  | .eraseProtectionRegister => .request (bareRequest 0x16)
  | .reserved17 => .request (bareRequest 0x17)
  | .reserved18to1F low => .request (bareRequest (0b11#2 ++ low))
  | .statusReadFrame => .frame (statusFrame c)
  | .idReadFrame => .frame (idFrame c)
  | .pageReadFrame f => .frame (addressFrame c.opc.pageRead f c.dummy.pageRead)
  | .arrayReadFrame f => .frame (addressFrame c.opc.arrayRead f c.dummy.arrayRead)
  | .buffer1ReadFrame f => .frame (addressFrame c.opc.buffer1Read f c.dummy.bufferRead)
  | .buffer2ReadFrame f => .frame (addressFrame c.opc.buffer2Read f c.dummy.bufferRead)
  | .buffer1WriteFrame f => .frame (addressFrame c.opc.buffer1Write f c.dummy.bufferWrite)
  | .buffer2WriteFrame f => .frame (addressFrame c.opc.buffer2Write f c.dummy.bufferWrite)
  | .buffer1ToPageWithEraseFrame f => .frame (addressFrame c.opc.buffer1ToPageWithErase f c.dummy.bufferToPage)
  | .buffer2ToPageWithEraseFrame f => .frame (addressFrame c.opc.buffer2ToPageWithErase f c.dummy.bufferToPage)
  | .buffer1ToPageWithoutEraseFrame f => .frame (addressFrame c.opc.buffer1ToPageWithoutErase f c.dummy.bufferToPage)
  | .buffer2ToPageWithoutEraseFrame f => .frame (addressFrame c.opc.buffer2ToPageWithoutErase f c.dummy.bufferToPage)
  | .pageToBuffer1Frame f => .frame (addressFrame c.opc.pageToBuffer1 f c.dummy.pageToBuffer)
  | .pageToBuffer2Frame f => .frame (addressFrame c.opc.pageToBuffer2 f c.dummy.pageToBuffer)
  | .pageEraseFrame f => .frame (addressFrame c.opc.pageErase f c.dummy.pageErase)
  | .blockEraseFrame f => .frame (addressFrame c.opc.blockErase f c.dummy.blockErase)
  | .sectorEraseFrame f => .frame (addressFrame c.opc.sectorErase f c.dummy.sectorErase)
  | .comparePageToBuffer1Frame f => .frame (addressFrame c.opc.comparePageToBuffer1 f c.dummy.compare)
  | .comparePageToBuffer2Frame f => .frame (addressFrame c.opc.comparePageToBuffer2 f c.dummy.compare)
  | .deepPowerDownFrame => .frame (plainFrame c.opc.deepPowerDown c.dummy.deepPowerDown)
  | .resumeFromDeepPowerDownFrame => .frame (plainFrame c.opc.resumeFromDeepPowerDown c.dummy.resume)
  | .enableSectorProtectionFrame => .frame (magicFrame c.opc.enableSectorProtection c.dummy.protection)
  | .disableSectorProtectionFrame => .frame (magicFrame c.opc.disableSectorProtection c.dummy.protection)
  | .eraseProtectionRegisterFrame => .frame (magicFrame c.opc.eraseProtectionRegister c.dummy.protection)

/-- The length in bytes of the frame whose first byte is `b` (R93, R97); 1 where `b` opens no frame. -/
def frameLength (c : Cfg) (b : Byte) : Nat :=
  let o := c.opc
  let d := c.dummy
  if b = o.statusRead then 1 + d.status
  else if b = o.idRead then 1 + d.id
  else if b = o.pageRead then 4 + d.pageRead
  else if b = o.arrayRead then 4 + d.arrayRead
  else if b ∈ [o.buffer1Read, o.buffer2Read] then 4 + d.bufferRead
  else if b ∈ [o.buffer1Write, o.buffer2Write] then 4 + d.bufferWrite
  else if b ∈ [o.buffer1ToPageWithErase, o.buffer2ToPageWithErase, o.buffer1ToPageWithoutErase,
      o.buffer2ToPageWithoutErase] then 4 + d.bufferToPage
  else if b ∈ [o.pageToBuffer1, o.pageToBuffer2] then 4 + d.pageToBuffer
  else if b = o.pageErase then 4 + d.pageErase
  else if b = o.blockErase then 4 + d.blockErase
  else if b = o.sectorErase then 4 + d.sectorErase
  else if b ∈ [o.comparePageToBuffer1, o.comparePageToBuffer2] then 4 + d.compare
  else if b = o.deepPowerDown then 1 + d.deepPowerDown
  else if b = o.resumeFromDeepPowerDown then 1 + d.resume
  else if b = o.enableSectorProtection.byte0 then 4 + d.protection
  else 1

/-- The lowest `n` bytes of `w`, most significant first: spec/INDEX.md takes a frame as one big-endian number whose
most significant byte is sent first. -/
def bigEndianBytes : Nat → Nat → List Byte
  | 0, _ => []
  | n + 1, w => BitVec.ofNat 8 (w >>> (8 * n)) :: bigEndianBytes n w

/-- The word `w` of a row of the opcode table, as what is presented to DFCE (log 24). A request row's word is its code
`op[4:0]`, below `0x20`, with operands of zeros; any other word is a frame of `nbits` bits, continued with zero bytes
up to the length its first byte gives. -/
def tableCode (c : Cfg) (nbits w : Nat) : Code :=
  if w < 0x20 then .request (bareRequest (BitVec.ofNat 5 w))
  else
    let given := bigEndianBytes ((nbits + 7) / 8) w
    .frame (given ++ zeros (frameLength c (given.headD 0) - given.length))

/-- The instruction the decoder reads from the table word `w` of `nbits` bits, under the default `cfg`. -/
def decodeTableWord (nbits w : Nat) : Option Instr :=
  match decode Config.default (tableCode Config.default nbits w) with
  | .ok i => some i
  | .error _ => none

end Sys2Proof
end

