-- ==== Sys2Proof/Machine/State.lean ====
section
/-! DEFINITION. The state of DFCE and of the environment its rules depend on (spec/10_state.md), as plain data; the
reasons a step can stop; and the state after reset (R49, R270). -/

namespace Sys2Proof.Machine

/-- `h.phase` (R34). -/
inductive Phase where
  | uninitialized
  | ready
  | failed
  deriving DecidableEq, Repr

/-- `h.address_bits`: the widths `bb`, `pb`, `sb`, 4 bits each (R30, R33; log 28). -/
structure AddressBits where
  bb : BitVec 4
  pb : BitVec 4
  sb : BitVec 4
  deriving DecidableEq, Repr

/-- The handle registers other than `h.phase` (R30). -/
structure Regs where
  manufacturerId     : Byte
  deviceId0          : Byte
  deviceId1          : Byte
  extendedInfoLength : Byte
  densityIndex       : BitVec 3
  bits               : AddressBits
  eraseMode          : EraseMode
  deriving DecidableEq, Repr

/-- The handle (R30). Outside `Ready` every register but the phase holds no value (R39), so the registers stand inside
the `ready` case (log 16). -/
inductive Handle where
  | uninitialized
  | ready (r : Regs)
  | failed
  deriving DecidableEq, Repr

/-- `h.phase` (R30, R34). -/
def Handle.phase : Handle → Phase
  | .uninitialized => .uninitialized
  | .ready _ => .ready
  | .failed => .failed

/-- The other registers: absent outside `Ready` (R39). -/
def Handle.regs : Handle → Option Regs
  | .uninitialized => none
  | .ready r => some r
  | .failed => none

/-- The four error kinds (R240). -/
inductive ErrorKind where
  | setupFailure
  | transportFailure
  | preconditionViolation
  | timeout
  deriving DecidableEq, Repr

/-- What an operation returns on `Ok` (R110, R112). -/
inductive Value where
  | unit
  | status (b : Byte)
  | bool (b : Bool)
  | id (manufacturer device0 device1 extendedInfoLength : Byte)
  deriving DecidableEq, Repr

/-- The response to a request (R112). -/
inductive Response where
  | ok (v : Value)
  | err (e : ErrorKind)
  deriving DecidableEq, Repr

/-- Transport events with the answer each got (R14, R256), and the host's own events (R175). `ok = false` and
`answer = none` are the answer `fail`. -/
inductive Event where
  | sel (ok : Bool)
  | desel (ok : Bool)
  | xchg (out : List Byte) (answer : Option (List Byte))
  | rst (active pin : Bool)
  | wp (active pin : Bool)
  | sleep (us : Nat)
  | hostXchg (out : List Byte) (answer : Option (List Byte))
  | hostDesel (ok : Bool)
  deriving DecidableEq, Repr

/-- What an operation does with the bytes an `Xchg` shifted in. -/
inductive Use where
  /-- Nothing (R257). -/
  | ignore
  /-- `BW_TEST` on the status byte: leave the loop, poll again or time out (R153). -/
  | poll
  /-- `setup`'s status byte: judge the density (R210). -/
  | density
  /-- `setup`'s ID bytes: write every handle register (R210), with the index and widths already derived. -/
  | latchId (index : BitVec 3) (bits : AddressBits)
  /-- Return the status byte (R150). -/
  | status
  /-- Return bit 7 of the status byte (R151). -/
  | ready
  /-- Return the four ID bytes (R156). -/
  | id
  /-- Return whether bit 6 of the status byte is clear (R197). -/
  | compare
  deriving DecidableEq, Repr

/-- One item of an operation's event list. -/
inductive Micro where
  | desel
  | sel
  | xchg (out : List Byte) (use : Use)
  /-- `Rst(active)`; with `needed`, the answer `false` ends the operation with `false` (R215). -/
  | rst (active needed : Bool)
  | wp (active : Bool)
  | sleep (us : Nat)
  /-- The start of `WAIT()`: no event, `bw.count <- 0`, `bw.state <- BW_ISSUE` (R153). -/
  | waitStart
  deriving DecidableEq, Repr

/-- An operation as it is accepted: its name, its event list, and the value it returns if no item changes it. -/
structure Job where
  op    : Instr
  todo  : List Micro
  value : Value
  deriving DecidableEq, Repr

/-- The sequencer position (R36): `Idle`, or an operation in progress, the index `k` of its next event, and with it the
items still to come and the value to be returned (log 5). -/
inductive Seq where
  | idle
  | run (op : Instr) (k : Nat) (todo : List Micro) (value : Value)
  deriving DecidableEq, Repr

/-- `bw.state` (R37). -/
inductive BwState where
  | idle
  | issue
  | test
  | done
  | timeout
  deriving DecidableEq, Repr

/-- The busy-wait registers (R37). -/
structure Bw where
  state : BwState
  count : Nat
  deriving DecidableEq, Repr

/-- `BW_IDLE` and count 0: the values of R37 and R49. -/
def Bw.atRest : Bw := ⟨.idle, 0⟩

/-- The three lines the transport drives (R44); `none` is a level DFCE does not know (R271; log 12). -/
structure Lines where
  selected    : Option Bool
  wpActive    : Option Bool
  resetActive : Option Bool
  deriving DecidableEq, Repr

/-- One move of the host (R48, R175): present something to DFCE, exchange bytes on the transport, or deselect. -/
inductive HostMove where
  | present (code : Code)
  | xchg (out : List Byte)
  | desel
  deriving DecidableEq, Repr

/-- Nothing in the spec stops the machine: every error is a response, after which DFCE takes the next request (R246).
So there is no fault (log 32). -/
inductive Fault where
  deriving DecidableEq, Repr

/-- Where the model has no move (spec/93_implementation_defined.md Part 1, treatment "refuse"). -/
inductive Refusal where
  /-- Raised by `exec`'s arm of an instruction that has no meaning yet; safe. -/
  | notModelled (mnemonic : String)
  /-- Raised by the step when `cfg` is ill formed: such a `cfg` is refused, not run (R11, U22); safe. -/
  | illFormedCfg
  /-- Raised by every meaning when an operation is in progress: the host has no such move (R281 (a), U10); safe. -/
  | requestWhileBusy
  /-- Raised by the step when the bytes at the frame port are no DFCE frame (R104, U21); safe. -/
  | notADfceFrame (e : FrameError)
  /-- Raised by the step for a `HostXchg` when no frame is open: the host has no such move (R281 (c)); safe. -/
  | hostXchgWithoutOpenFrame
  deriving DecidableEq, Repr

/-- The state. -/
structure State where
  /-- The configuration, which never changes (R10, R270; log 1). -/
  cfg       : Cfg
  /-- The handle registers (R30). -/
  handle    : Handle
  /-- The sequencer position (R36). -/
  seq       : Seq
  /-- The busy-wait registers (R37). -/
  bw        : Bw
  /-- The response port: the response to the last request, absent while one is in progress (R112; log 33). -/
  response  : Option Response
  /-- The transport's lines (R44). -/
  lines     : Lines
  /-- Whether the host may stream payload: a frame was left open (R175, R281 (c); log 9). -/
  frameOpen : Bool
  /-- Every transport event so far with its answer, oldest first (R15, R72). -/
  trace     : List Event
  /-- The transport's answers already decided, the next first (R46; log 2). -/
  answers   : List Answer
  /-- How many answers have been drawn: the argument of the free values (the model's own field; log 2). -/
  asked     : Nat
  /-- The host's next moves, the next first (R48; log 6). -/
  host      : List HostMove
  /-- DFCE's own hardware reset is asserted (R34, R270; log 23). -/
  resetPin  : Bool
  deriving DecidableEq, Repr

/-- No line level is known (R271). -/
def Lines.unknown : Lines := ⟨none, none, none⟩

/-- The state right after DFCE's hardware reset (R49, R270, R271), under the default `cfg` (R10). -/
def State.reset : State where
  cfg       := Config.default
  handle    := .uninitialized
  seq       := .idle
  bw        := .atRest
  response  := none
  lines     := .unknown
  frameOpen := false
  trace     := []
  answers   := []
  asked     := 0
  host      := []
  resetPin  := false

end Sys2Proof.Machine
end

