-- ==== Sys2Proof/Machine/Flags.lean ====
section
/-! DEFINITION. The bits of the chip's status byte (spec/10_state.md R40) and the codes of a response
(spec/60_exceptions.md R240, spec/30_encoding.md R112). DFCE keeps no flags of its own (R41). -/

namespace Sys2Proof.Machine

/-- `RDY`, bit 7: the chip is ready (R40). -/
def rdy (s : Byte) : Bool := s.getLsbD 7

/-- `COMP`, bit 6: the last compare found a difference (R40). -/
def comp (s : Byte) : Bool := s.getLsbD 6

/-- `DENS`, bits 5 to 2: the density code (R40). -/
def dens (s : Byte) : BitVec 4 := s.extractLsb' 2 4

/-- `PROT`, bit 1: sector protection is enabled (R40); no rule of DFCE reads it. -/
def prot (s : Byte) : Bool := s.getLsbD 1

/-- `PSIZE`, bit 0: binary page size (R40). -/
def psize (s : Byte) : Bool := s.getLsbD 0

/-- The numeric code of an error kind (R240). -/
def ErrorKind.code : ErrorKind → Nat
  | .setupFailure => 1
  | .transportFailure => 2
  | .preconditionViolation => 3
  | .timeout => 4

/-- The `kind` field of a response (R112, R240). -/
def Response.kind : Response → Nat
  | .ok _ => 0
  | .err e => e.code

/-- The `value` field of a response as bytes: the status byte, 1 or 0, the four ID bytes; absent otherwise (R112). -/
def Response.value : Response → Option (List Byte)
  | .ok .unit => none
  | .ok (.status b) => some [b]
  | .ok (.bool b) => some [if b then 1 else 0]
  | .ok (.id m d0 d1 n) => some [m, d0, d1, n]
  | .err _ => none

/-- `busy`, all the host sees of the sequencer (R36). -/
def State.busy (s : State) : Bool :=
  match s.seq with
  | .idle => false
  | .run _ _ _ _ => true

end Sys2Proof.Machine
end

