-- ==== Sys2Proof/Machine/Operands.lean ====
section
/-! DEFINITION. The pure encoder functions of spec/40_encoder_functions.md, the operand ranges of spec/20_memory.md
R61, and the well-formedness of `cfg` (spec/00_scope.md R11). Shifts are of naturals, lossless, then cut (R13, R138). -/

namespace Sys2Proof.Machine

/-- `bb` as the natural it stands for (R33). -/
def AddressBits.buffer (b : AddressBits) : Nat := b.bb.toNat

/-- `pb` as the natural it stands for (R33). -/
def AddressBits.page (b : AddressBits) : Nat := b.pb.toNat

/-- `sb` as the natural it stands for (R33). -/
def AddressBits.sector (b : AddressBits) : Nat := b.sb.toNat

/-- `density_index(status)` (R130); `none` is `fail`. -/
def densityIndex (rule : DensityRule) (status : Byte) : Option Nat :=
  match rule with
  | .mask38Shift3 =>
    let raw := (status.toNat &&& 0x38) >>> 3
    if raw = 0 then none else some (raw - 1)
  | .mask3CShift2 =>
    let raw := (status.toNat &&& 0x3C) >>> 2
    if raw = 0 ∨ 7 < raw then none else some (raw - 1)

/-- `geometry_for(density_index, binary_page_flag)` (R131); `none` is `fail`. The widths are cut to
the four bits of their registers, which under a well-formed `cfg` loses none (R11, R30; log 28). -/
def geometryFor (geom : Vector GeomRow 7) (index : Nat) (binaryPage : Bool) : Option AddressBits :=
  match geom[index]? with
  | none => none
  | some g => some ⟨BitVec.ofNat 4 (g.buffer - binaryPage.toNat), BitVec.ofNat 4 g.page, BitVec.ofNat 4 g.sector⟩

/-- `encode_page_address(page, buffer_bits)`: the two address bytes `(hi, lo)` in the source's form (R133). -/
def encodePageAddress (page bb : Nat) : Byte × Byte :=
  (BitVec.ofNat 8 (page >>> (16 - bb)), BitVec.ofNat 8 (page <<< (bb - 8)))

/-- The field of a page and an offset: `trunc24((page << bb) | offset)` (R60, R95). -/
def pageField (b : AddressBits) (page offset : Operand) : Field :=
  BitVec.ofNat 24 ((page.toNat <<< b.buffer) ||| offset.toNat)

/-- The field of an offset inside a buffer: the page part is sent as 0 (R62, R95). -/
def offsetField (offset : Operand) : Field := BitVec.ofNat 24 offset.toNat

/-- `block_address(block, bb)` (R135). -/
def blockField (b : AddressBits) (block : Operand) : Field :=
  BitVec.ofNat 24 (block.toNat <<< (b.buffer + 3))

/-- `sector_address(sector, bb, pb, sb)` (R136). The illegal sector kind is rejected before any encoding; its value here
is never sent. -/
def sectorField (b : AddressBits) : Sector → Field
  | .s0A => 0
  | .s0B => BitVec.ofNat 24 (1 <<< (b.buffer + 3))
  | .sn n => BitVec.ofNat 24 (n.toNat <<< (b.buffer + b.page - b.sector))
  | .illegal => 0

/-- `page < 2^pb` (R61, R244). -/
def pageInRange (b : AddressBits) (page : Operand) : Bool := decide (page.toNat < 2 ^ b.page)

/-- `offset < 2^bb` (R61, R244); the true page size is not known (R66). -/
def offsetInRange (b : AddressBits) (offset : Operand) : Bool := decide (offset.toNat < 2 ^ b.buffer)

/-- `block < 2^(pb - 3)` (R61, R244). -/
def blockInRange (b : AddressBits) (block : Operand) : Bool := decide (block.toNat < 2 ^ (b.page - 3))

/-- `S0A`, `S0B`, or `SN(n)` with `1 <= n < 2^sb` (R61, R244, R245). -/
def sectorInRange (b : AddressBits) : Sector → Bool
  | .s0A => true
  | .s0B => true
  | .sn n => decide (1 ≤ n.toNat ∧ n.toNat < 2 ^ b.sector)
  | .illegal => false

/-- The page number a field carries: `A24 >> bb` (R105). -/
def pageOfField (b : AddressBits) (field : Field) : Operand := BitVec.ofNat 16 (field.toNat >>> b.buffer)

/-- The offset a field carries: `A24 & (2^bb - 1)` (R105). -/
def offsetOfField (b : AddressBits) (field : Field) : Operand :=
  BitVec.ofNat 16 (field.toNat &&& (2 ^ b.buffer - 1))

/-- The offset a buffer frame carries: the whole field (R62). -/
def bufferOffsetOfField (field : Field) : Operand := BitVec.ofNat 16 field.toNat

/-- The block number a field carries (R135 inverted). -/
def blockOfField (b : AddressBits) (field : Field) : Operand :=
  BitVec.ofNat 16 (field.toNat >>> (b.buffer + 3))

/-- The sector a field carries (R136 inverted): the three packings share no field. -/
def sectorOfField (b : AddressBits) (field : Field) : Sector :=
  if field = sectorField b .s0A then .s0A
  else if field = sectorField b .s0B then .s0B
  else .sn (BitVec.ofNat 8 (field.toNat >>> (b.buffer + b.page - b.sector)))

/-- The geometry row condition of R11. -/
def rowWellFormed (g : GeomRow) : Bool :=
  decide (9 ≤ g.buffer ∧ g.buffer ≤ 11 ∧ g.buffer + g.page ≤ 24 ∧ 4 ≤ g.page ∧ g.sector + 3 < g.page ∧ 1 ≤ g.sector)

/-- Every opening byte of a frame, each opcode once and the protection sequences' common first byte (R100). -/
def openingBytes (o : Opcodes) : List Byte :=
  [o.statusRead, o.idRead, o.pageRead, o.arrayRead, o.buffer1Read, o.buffer2Read, o.buffer1Write, o.buffer2Write,
   o.buffer1ToPageWithErase, o.buffer2ToPageWithErase, o.buffer1ToPageWithoutErase, o.buffer2ToPageWithoutErase,
   o.pageToBuffer1, o.pageToBuffer2, o.pageErase, o.blockErase, o.sectorErase, o.comparePageToBuffer1,
   o.comparePageToBuffer2, o.deepPowerDown, o.resumeFromDeepPowerDown, o.enableSectorProtection.byte0]

/-- The first three bytes of a protection sequence. -/
def magicStem (m : Magic) : List Byte := [m.byte0, m.byte1, m.byte2]

/-- The opcode condition of R11: distinct opening bytes; the three sequences share three bytes and differ in the
fourth. -/
def opcodesWellFormed (o : Opcodes) : Bool :=
  decide ((openingBytes o).Nodup
    ∧ magicStem o.disableSectorProtection = magicStem o.enableSectorProtection
    ∧ magicStem o.eraseProtectionRegister = magicStem o.enableSectorProtection
    ∧ [o.enableSectorProtection.byte3, o.disableSectorProtection.byte3, o.eraseProtectionRegister.byte3].Nodup)

/-- A poll budget is at least 1 (R10). -/
def budgetWellFormed : Option Nat → Bool
  | none => true
  | some n => decide (1 ≤ n)

/-- Well-formedness of `cfg` (R11, with R10's condition on the poll budget; log 10). -/
def cfgWellFormed (c : Cfg) : Bool :=
  c.geom.toList.all rowWellFormed && opcodesWellFormed c.opc && budgetWellFormed c.pollBudget

end Sys2Proof.Machine
end

