-- ==== Sys2Proof/Machine/Ops.lean ====
section
/-! DEFINITION. The shared operations of DFCE: recording an event, responding, raising an error (spec/60_exceptions.md
R246), running an operation's event list against the transport's answers, the wait loop (spec/41_status_wait_id.md
R153), accepting a request (R243), the event lists operations are made of (spec/30_encoding.md R91, R92), the host's own
moves (spec/42_read_write.md R175) and hardware reset (spec/70_reset_and_hazards.md R270). -/

namespace Sys2Proof.Machine

/-- What one of the model's machines answers. -/
abbrev Outcome := Host.Outcome State Fault Refusal

/-! ## Writing one field -/

/-- Write the handle. -/
def State.setHandle (s : State) (h : Handle) : State := { s with handle := h }

/-- Move the sequencer. -/
def State.setSeq (s : State) (q : Seq) : State := { s with seq := q }

/-- Write the busy-wait registers. -/
def State.setBw (s : State) (b : Bw) : State := { s with bw := b }

/-- Write the response port. -/
def State.setResponse (s : State) (r : Option Response) : State := { s with response := r }

/-- Note whether a frame is open. -/
def State.setFrameOpen (s : State) (isOpen : Bool) : State := { s with frameOpen := isOpen }

/-- Set the answers already decided. -/
def State.setAnswers (s : State) (as : List Answer) : State := { s with answers := as }

/-- Set the host's next moves. -/
def State.setHost (s : State) (ms : List HostMove) : State := { s with host := ms }

/-! ## Lines and trace -/

/-- The lines after an event (R44): `Sel` and `Desel` move the select line when they answer `ok`; the other two lines
are the last value driven. -/
def Lines.after (l : Lines) : Event → Lines
  | .sel true => { l with selected := some true }
  | .desel true => { l with selected := some false }
  | .hostDesel true => { l with selected := some false }
  | .wp active _ => { l with wpActive := some active }
  | .rst active _ => { l with resetActive := some active }
  | .sel false | .desel false | .hostDesel false | .xchg _ _ | .sleep _ | .hostXchg _ _ => l

/-- Whether a frame is open after an event: a successful deselection closes it (R176). -/
def openAfter (isOpen : Bool) : Event → Bool
  | .desel true => false
  | .hostDesel true => false
  | .desel false | .hostDesel false | .sel _ | .xchg _ _ | .rst _ _ | .wp _ _ | .sleep _ | .hostXchg _ _ => isOpen

/-- Append an event to the trace and fold it into the lines (R15, R44). -/
def State.record (s : State) (e : Event) : State :=
  { s with trace := s.trace ++ [e], lines := s.lines.after e, frameOpen := openAfter s.frameOpen e }

/-- Append an event that got an answer: one more answer has been drawn (R46). -/
def State.recordAnswered (s : State) (e : Event) : State :=
  { s.record e with asked := s.asked + 1 }

/-! ## Answers -/

/-- `in[k]` of the exchange that drew answer `n`: the answer's byte `k`, or a free byte where it gives none (log 4). A
rule that indexes beyond a frame too short for it reads such a byte too (log 34). -/
def byteRead (n : Nat) (a : Answer) (k : Nat) : Byte := a.bytes.getD k (Config.freeByte n k)

/-- The bytes an answer gives an exchange of `len` bytes, or `none` for `fail`: always `len` of them (R14, R256). -/
def shiftedIn (n : Nat) (a : Answer) (len : Nat) : Option (List Byte) :=
  if a.ok then some ((List.range len).map (byteRead n a)) else none

/-! ## Ending an operation -/

/-- The operations that leave their frame open for payload (R170 to R173, R175). -/
def leavesFrameOpen : Instr → Bool
  | .pageRead _ _ => true
  | .arrayRead _ _ => true
  | .bufferRead _ _ => true
  | .bufferWrite _ _ => true
  | _ => false

/-- End the operation in progress with a response: `seq <- (Idle, 0)`, `bw.state <- BW_IDLE` (R36, R37, R246). -/
def State.respond (s : State) (r : Response) : State :=
  ((s.setSeq .idle).setBw .atRest).setResponse (some r)

/-- `raise E`, the one way an operation ends early (R246): the response is `Err(E)`, no further event, no register
written, no clean-up. -/
def State.raiseError (s : State) (e : ErrorKind) : State := s.respond (.err e)

/-- `return v` (R14). An operation that leaves its frame open lets the host stream (R175). -/
def State.finish (s : State) (op : Instr) (v : Value) : State :=
  (s.respond (.ok v)).setFrameOpen (s.frameOpen || leavesFrameOpen op)

/-! ## Running an event list -/

/-- Go on with the items `todo` from event index `k`: perform the leading items that ask for no answer (`Sleep`, the
start of a wait), then stop at the first that does, or return when none is left. -/
def State.settle (s : State) (op : Instr) (k : Nat) (v : Value) : List Micro → State
  | [] => s.finish op v
  | .sleep us :: rest => (s.record (.sleep us)).settle op (k + 1) v rest
  | .waitStart :: rest => (s.setBw ⟨.issue, 0⟩).settle op k v rest
  | todo => s.setSeq (.run op k todo v)

/-- `FRAME(out)`: a decoder reset and one exchange of the whole byte list (R91). -/
def frame (out : List Byte) (use : Use) : List Micro := [.desel, .sel, .xchg out use]

/-- `START()` (R92). -/
def start : List Micro := [.desel, .sel]

/-- One poll: a whole status frame (R153 (a)). -/
def poll (c : Cfg) : List Micro := frame (statusFrame c) .poll

/-- `WAIT()` (R153). -/
def wait (c : Cfg) : List Micro := .waitStart :: poll c

/-- The transition out of `BW_TEST` (R153). `bw.count` is present only under a poll budget (R37; log 15). -/
def bwTest (budget : Option Nat) (ready : Bool) (b : Bw) : Bw :=
  if ready then { b with state := .done }
  else match budget with
    | none => { b with state := .issue }
    | some n => if n ≤ b.count + 1 then ⟨.timeout, b.count + 1⟩ else ⟨.issue, b.count + 1⟩

/-- What follows a poll answered with status byte `status` (R153): leave the loop, raise `Timeout`, or go back to the
first event of the status frame, the only backward move of the sequencer (R36). -/
def State.afterPoll (s : State) (op : Instr) (k : Nat) (v : Value) (rest : List Micro) (status : Byte) : State :=
  let b := bwTest s.cfg.pollBudget (rdy status) { s.bw with state := .test }
  match b.state with
  | .done => (s.setBw { b with state := .idle }).settle op (k + 1) v rest
  | .timeout => s.raiseError .timeout
  | .idle | .issue | .test => (s.setBw b).setSeq (.run op (k - 2) (poll s.cfg ++ rest) v)

/-- `setup` after its status byte (R210): an unsupported density is fatal (R241), any other is followed by the ID
frame. -/
def State.afterDensity (s : State) (op : Instr) (k : Nat) (v : Value) (rest : List Micro) (status : Byte) : State :=
  match densityIndex s.cfg.densityRule status with
  | none => (s.setHandle .failed).raiseError .setupFailure
  | some index =>
    match geometryFor s.cfg.geom index (psize status) with
    | none => (s.setHandle .failed).raiseError .setupFailure
    | some bits => s.settle op (k + 1) v (frame (idFrame s.cfg) (.latchId (BitVec.ofNat 3 index) bits) ++ rest)

/-- The handle `setup` leaves (R50, R210): every register at once, `erase_mode` at `Auto`. -/
def setupHandle (index : BitVec 3) (bits : AddressBits) (inp : Nat → Byte) : Handle :=
  .ready { manufacturerId := inp 1, deviceId0 := inp 2, deviceId1 := inp 3,
           extendedInfoLength := inp 4, densityIndex := index, bits := bits, eraseMode := .auto }

/-- The value `read_id` returns (R156). -/
def idValue (inp : Nat → Byte) : Value := .id (inp 1) (inp 2) (inp 3) (inp 4)

/-- Use the bytes `inp` of the exchange at index `k`, then go on. -/
def State.useBytes (s : State) (op : Instr) (k : Nat) (v : Value) (rest : List Micro) (inp : Nat → Byte) : Use → State
  | .ignore => s.settle op (k + 1) v rest
  | .poll => s.afterPoll op k v rest (inp 1)
  | .density => s.afterDensity op k v rest (inp 1)
  | .latchId index bits => (s.setHandle (setupHandle index bits inp)).settle op (k + 1) v rest
  | .status => s.settle op (k + 1) (.status (inp 1)) rest
  | .ready => s.settle op (k + 1) (.bool (rdy (inp 1))) rest
  | .id => s.settle op (k + 1) (idValue inp) rest
  | .compare => s.settle op (k + 1) (.bool (!comp (inp 1))) rest

/-- `Sel` or `Desel` with its answer: a `fail` raises `TransportFailure` on the spot (R242). -/
def State.lineEvent (s : State) (op : Instr) (k : Nat) (v : Value) (rest : List Micro) (e : Event) (ok : Bool) : State :=
  if ok then (s.recordAnswered e).settle op (k + 1) v rest
  else (s.recordAnswered e).raiseError .transportFailure

/-- `Xchg(out)` with its answer: a `fail` raises `TransportFailure` on the spot (R242). -/
def State.exchange (s : State) (op : Instr) (k : Nat) (v : Value) (rest : List Micro) (out : List Byte) (use : Use)
    (a : Answer) : State :=
  match shiftedIn s.asked a out.length with
  | none => (s.recordAnswered (.xchg out none)).raiseError .transportFailure
  | some bytes => (s.recordAnswered (.xchg out (some bytes))).useBytes op k v rest (byteRead s.asked a) use

/-- `Rst(active)` with its answer, which cannot be `fail` (R242): where the pin is needed and there is none, the
operation ends with `false` (R215). -/
def State.resetEvent (s : State) (op : Instr) (k : Nat) (v : Value) (rest : List Micro) (active needed pin : Bool) :
    State :=
  if needed && !pin then (s.recordAnswered (.rst active pin)).finish op (.bool false)
  else (s.recordAnswered (.rst active pin)).settle op (k + 1) v rest

/-- The event at the head of the list, with its answer `a` (R14, R36). An item that asks for no answer is settled. -/
def State.event (s : State) (op : Instr) (k : Nat) (v : Value) (a : Answer) : List Micro → State
  | .desel :: rest => s.lineEvent op k v rest (.desel a.ok) a.ok
  | .sel :: rest => s.lineEvent op k v rest (.sel a.ok) a.ok
  | .xchg out use :: rest => s.exchange op k v rest out use a
  | .rst active needed :: rest => s.resetEvent op k v rest active needed a.pin
  | .wp active :: rest => (s.recordAnswered (.wp active a.pin)).settle op (k + 1) v rest
  | todo => s.settle op k v todo

/-- One event of the operation in progress, with its answer `a` (R36). -/
def State.advance (s : State) (a : Answer) : State :=
  match s.seq with
  | .idle => s
  | .run op k todo v => s.event op k v a todo

/-- Run the operation in progress against decided answers until it ends or they run out; what is left over stays
decided (log 3). -/
def State.drive (s : State) : List Answer → State
  | [] => s.setAnswers []
  | a :: rest => if s.busy then (s.advance a).drive rest else s.setAnswers (a :: rest)

/-- Go on with the operation in progress: with the answers decided so far, or with the next free answer if there is
none (R46; log 2). -/
def State.resume (s : State) : State :=
  match s.answers with
  | [] => s.advance (Config.freeAnswer s.asked)
  | a :: rest => s.drive (a :: rest)

/-! ## Accepting a request -/

/-- Accept an operation (R36): `seq <- (op, 0)`, no response yet, and run it as far as the decided answers go. -/
def State.launch (s : State) (j : Job) : State :=
  ((s.setResponse none).settle j.op 0 j.value j.todo).drive s.answers

/-- Reject a request before any event: `Err(PreconditionViolation)`, no register written (R243, R244, R245). -/
def State.reject (s : State) : State := s.raiseError .preconditionViolation

/-- Do `f` if no operation is in progress; the host makes no request otherwise (R48, R281 (a); log 8). -/
def whenIdle (f : State → State) (s : State) : Outcome :=
  match s.seq with
  | .idle => .next (f s)
  | .run _ _ _ _ => .refused .requestWhileBusy

/-- The head of every operation but `setup` (R243, R244): the phase must be `Ready` and the operands legal (`plan`
answers `none` otherwise); then the operation is accepted. -/
def whenReady (plan : Cfg → Regs → Option Job) (s : State) : Outcome :=
  whenIdle (fun s =>
    match s.handle with
    | .ready r =>
      match plan s.cfg r with
      | some j => s.launch j
      | none => s.reject
    | .uninitialized => s.reject
    | .failed => s.reject) s

/-- The head of an operation that emits no event and only writes the handle (R211, R212). -/
def writeHandle (f : Regs → Handle) (s : State) : Outcome :=
  whenIdle (fun s =>
    match s.handle with
    | .ready r => (s.setHandle (f r)).respond (.ok .unit)
    | .uninitialized => s.reject
    | .failed => s.reject) s

/-- A job whose operands are legal. -/
def jobIf (legal : Bool) (op : Instr) (todo : List Micro) (value : Value := .unit) : Option Job :=
  if legal then some ⟨op, todo, value⟩ else none

/-- The job of a frame row (log 7): the frame is one DFCE sends only if some legal operand encodes to its field (R104),
and then it is that operation (R105). -/
def jobOfField (given field : Field) (j : Option Job) : Option Job := if given = field then j else none

/-! ## The host's own moves and hardware reset -/

/-- The next answer: the first decided one, or a free one (R46). -/
def State.nextAnswer (s : State) : Answer :=
  match s.answers with
  | [] => Config.freeAnswer s.asked
  | a :: _ => a

/-- `HostXchg(out)` on an open frame (R175); on none it is no move of the host (R281 (c); log 9). -/
def hostXchg (out : List Byte) (s : State) : Outcome :=
  if s.frameOpen then
    let e := Event.hostXchg out (shiftedIn s.asked s.nextAnswer out.length)
    .next ((s.setAnswers s.answers.tail).recordAnswered e)
  else .refused .hostXchgWithoutOpenFrame

/-- `HostDesel` between operations (R175, R176, R279). -/
def hostDesel (s : State) : Outcome :=
  .next ((s.setAnswers s.answers.tail).recordAnswered (.hostDesel s.nextAnswer.ok))

/-- DFCE's hardware reset (R34, R49, R270, R271): the handle is empty, nothing is in progress, no event is emitted, and
the lines are in a state DFCE does not know. -/
def hardwareReset (s : State) : State :=
  { s with handle := .uninitialized, seq := .idle, bw := .atRest, response := none, lines := .unknown,
           frameOpen := false, resetPin := false }

/-! ## One turn of the machine -/

/-- What the machine does next: an outcome of its own, or an instruction to execute in a state. -/
inductive Turn where
  | stop (o : Outcome)
  | run (i : Instr) (s : State)

/-- The next turn: an ill-formed `cfg` is refused (R11); hardware reset comes before all else (R270); an operation in
progress goes on (R283); otherwise the host moves, or DFCE waits for a request (R49). -/
def nextTurn (s : State) : Turn :=
  if cfgWellFormed s.cfg then
    if s.resetPin then .stop (.next (hardwareReset s))
    else match s.seq with
      | .run _ _ _ _ => .stop (.next s.resume)
      | .idle =>
        match s.host with
        | [] => .stop (.next s)
        | .present code :: rest =>
          match decode s.cfg code with
          | .ok i => .run i (s.setHost rest)
          | .error e => .stop (.refused (.notADfceFrame e))
        | .xchg out :: rest => .stop (hostXchg out (s.setHost rest))
        | .desel :: rest => .stop (hostDesel (s.setHost rest))
  else .stop (.refused .illFormedCfg)

/-- Present the table word `w` of `nbits` bits so that the next turn executes it: DFCE is idle and not in reset, and the
host's next move is this word (log 6). -/
def placeWord (s : State) (nbits w : Nat) : State :=
  { s with seq := .idle, bw := .atRest, resetPin := false, host := .present (tableCode s.cfg nbits w) :: s.host }

end Sys2Proof.Machine
end

