-- ==== Sys2Proof/Machine/Lifecycle.lean ====
section
/-! DEFINITION. The lifecycle operations `setup`, `end`, `set_erase_mode` (spec/44_system.md R210 to R212) and the
reserved request codes (spec/60_exceptions.md R245). -/

namespace Sys2Proof.Machine

/-- `setup()` (R210): only in `Uninitialized`; one status frame, then, for a supported density, one ID frame. -/
def execSetup (s : State) : Outcome :=
  whenIdle (fun s =>
    match s.handle with
    | .uninitialized => s.launch ⟨.setup, frame (statusFrame s.cfg) .density, .unit⟩
    | .ready _ => s.reject
    | .failed => s.reject) s

/-- `end()` (R211): no event; every register loses its value. -/
def execEnd (s : State) : Outcome := writeHandle (fun _ => .uninitialized) s

/-- `set_erase_mode(mode)` (R212): no event; writes `h.erase_mode` and nothing else. -/
def execSetEraseMode (mode : EraseMode) (s : State) : Outcome :=
  writeHandle (fun r => .ready { r with eraseMode := mode }) s

/-- Request code `0x17` (R245): rejected in every phase. -/
def execReserved17 (s : State) : Outcome := whenIdle State.reject s

/-- Request codes `0x18` to `0x1F` (R245): rejected in every phase. -/
def execReserved18to1F (_low : BitVec 3) (s : State) : Outcome := whenIdle State.reject s

end Sys2Proof.Machine
end

