-- ==== Sys2Proof/Machine/ReadWrite.lean ====
section
/-! DEFINITION. The operations that leave their frame open for the host's payload (spec/42_read_write.md R170 to R173)
and the wire frames they send. -/

namespace Sys2Proof.Machine

/-- `page_read(page, offset)` (R170). -/
def pageReadJob (page offset : Operand) (c : Cfg) (r : Regs) : Option Job :=
  jobIf (pageInRange r.bits page && offsetInRange r.bits offset) (.pageRead page offset)
    (frame (addressFrame c.opc.pageRead (pageField r.bits page offset) c.dummy.pageRead) .ignore)

/-- `array_read(page, offset)` (R171). -/
def arrayReadJob (page offset : Operand) (c : Cfg) (r : Regs) : Option Job :=
  jobIf (pageInRange r.bits page && offsetInRange r.bits offset) (.arrayRead page offset)
    (frame (addressFrame c.opc.arrayRead (pageField r.bits page offset) c.dummy.arrayRead) .ignore)

/-- `buffer_num = 0` selects the "buffer 1" opcode, `1` the "buffer 2" opcode (R101). -/
def byBuffer (bufferNum : Byte) (one two : Byte) : Byte := if bufferNum = 0 then one else two

/-- `buffer_read(buffer_num, offset)` (R172): the checks come before the wait. -/
def bufferReadJob (bufferNum : Byte) (offset : Operand) (c : Cfg) (r : Regs) : Option Job :=
  jobIf (bufferNumLegal bufferNum && offsetInRange r.bits offset) (.bufferRead bufferNum offset)
    (wait c ++ frame (addressFrame (byBuffer bufferNum c.opc.buffer1Read c.opc.buffer2Read) (offsetField offset)
      c.dummy.bufferRead) .ignore)

/-- `buffer_write(buffer_num, offset)` (R173): the bytes to write are the host's payload. -/
def bufferWriteJob (bufferNum : Byte) (offset : Operand) (c : Cfg) (r : Regs) : Option Job :=
  jobIf (bufferNumLegal bufferNum && offsetInRange r.bits offset) (.bufferWrite bufferNum offset)
    (wait c ++ frame (addressFrame (byBuffer bufferNum c.opc.buffer1Write c.opc.buffer2Write) (offsetField offset)
      c.dummy.bufferWrite) .ignore)

/-- `page_read(page, offset)` (R170). -/
def execPageRead (page offset : Operand) (s : State) : Outcome := whenReady (pageReadJob page offset) s

/-- `array_read(page, offset)` (R171). -/
def execArrayRead (page offset : Operand) (s : State) : Outcome := whenReady (arrayReadJob page offset) s

/-- `buffer_read(buffer_num, offset)` (R172). -/
def execBufferRead (bufferNum : Byte) (offset : Operand) (s : State) : Outcome :=
  whenReady (bufferReadJob bufferNum offset) s

/-- `buffer_write(buffer_num, offset)` (R173). -/
def execBufferWrite (bufferNum : Byte) (offset : Operand) (s : State) : Outcome :=
  whenReady (bufferWriteJob bufferNum offset) s

/-- A page-and-offset frame: the field of the page and offset it carries (R105). -/
def ofPageOffset (job : Operand → Operand → Cfg → Regs → Option Job) (field : Field) (c : Cfg) (r : Regs) : Option Job :=
  let page := pageOfField r.bits field
  let offset := offsetOfField r.bits field
  jobOfField field (pageField r.bits page offset) (job page offset c r)

/-- An offset-only frame of buffer `bufferNum` (R62, R105). -/
def ofBufferOffset (job : Byte → Operand → Cfg → Regs → Option Job) (bufferNum : Byte) (field : Field) (c : Cfg)
    (r : Regs) : Option Job :=
  let offset := bufferOffsetOfField field
  jobOfField field (offsetField offset) (job bufferNum offset c r)

/-- The frame `PAGE_READ` (row 3 of R100), by its rule R170. -/
def execPageReadFrame (field : Field) (s : State) : Outcome := whenReady (ofPageOffset pageReadJob field) s

/-- The frame `ARRAY_READ` (row 4 of R100), by its rule R171. -/
def execArrayReadFrame (field : Field) (s : State) : Outcome := whenReady (ofPageOffset arrayReadJob field) s

/-- The frame `BUFFER_1_READ` (row 5 of R100), by its rule R172. -/
def execBuffer1ReadFrame (field : Field) (s : State) : Outcome := whenReady (ofBufferOffset bufferReadJob 0 field) s

/-- The frame `BUFFER_2_READ` (row 6 of R100), by its rule R172. -/
def execBuffer2ReadFrame (field : Field) (s : State) : Outcome := whenReady (ofBufferOffset bufferReadJob 1 field) s

/-- The frame `BUFFER_1_WRITE` (row 7 of R100), by its rule R173. -/
def execBuffer1WriteFrame (field : Field) (s : State) : Outcome := whenReady (ofBufferOffset bufferWriteJob 0 field) s

/-- The frame `BUFFER_2_WRITE` (row 8 of R100), by its rule R173. -/
def execBuffer2WriteFrame (field : Field) (s : State) : Outcome := whenReady (ofBufferOffset bufferWriteJob 1 field) s

end Sys2Proof.Machine
end

