-- ==== Sys2Proof/Machine/Status.lean ====
section
/-! DEFINITION. Status read, ready test, the wait and the ID read (spec/41_status_wait_id.md R150 to R156), and the two
wire frames they send. -/

namespace Sys2Proof.Machine

/-- `read_status()` (R150): one status frame, whose answer byte is returned and not kept. -/
def readStatusJob (c : Cfg) (_r : Regs) : Option Job :=
  jobIf true .readStatus (frame (statusFrame c) .status)

/-- `is_ready()` (R151): one status frame; bit 7 of the answer byte. -/
def isReadyJob (c : Cfg) (_r : Regs) : Option Job :=
  jobIf true .isReady (frame (statusFrame c) .ready)

/-- `wait_until_ready()` (R154): a wait and nothing else. -/
def waitUntilReadyJob (c : Cfg) (_r : Regs) : Option Job :=
  jobIf true .waitUntilReady (wait c)

/-- `read_id()` (R156): one ID frame; the handle is not written. -/
def readIdJob (c : Cfg) (_r : Regs) : Option Job :=
  jobIf true .readId (frame (idFrame c) .id)

/-- `read_status()` (R150). -/
def execReadStatus (s : State) : Outcome := whenReady readStatusJob s

/-- `is_ready()` (R151). -/
def execIsReady (s : State) : Outcome := whenReady isReadyJob s

/-- `wait_until_ready()` (R154). -/
def execWaitUntilReady (s : State) : Outcome := whenReady waitUntilReadyJob s

/-- `read_id()` (R156). -/
def execReadId (s : State) : Outcome := whenReady readIdJob s

/-- The frame `STATUS_READ` (row 1 of R100), by its rule R150. -/
def execStatusReadFrame (s : State) : Outcome := whenReady readStatusJob s

/-- The frame `ID_READ` (row 2 of R100), by its rule R156. -/
def execIdReadFrame (s : State) : Outcome := whenReady readIdJob s

end Sys2Proof.Machine
end

