-- ==== Sys2Proof/Machine/System.lean ====
section
/-! DEFINITION. Power, hard reset and sector protection (spec/44_system.md R213 to R222) and the wire frames they
send. -/

namespace Sys2Proof.Machine

/-- `deep_power_down()` (R213): the chip is left deselected. -/
def deepPowerDownJob (c : Cfg) (_r : Regs) : Option Job :=
  jobIf true .deepPowerDown (frame (plainFrame c.opc.deepPowerDown c.dummy.deepPowerDown) .ignore ++ [.desel])

/-- `resume_from_deep_power_down()` (R214): the recovery window comes before the response. -/
def resumeJob (c : Cfg) (_r : Regs) : Option Job :=
  jobIf true .resumeFromDeepPowerDown
    (frame (plainFrame c.opc.resumeFromDeepPowerDown c.dummy.resume) .ignore ++ [.desel, .sleep c.resumeDelayUs])

/-- `hard_reset()` (R215): without a reset pin nothing is done after the first event. -/
def hardResetJob (c : Cfg) (_r : Regs) : Option Job :=
  jobIf true .hardReset
    [.rst true true, .sleep c.resetLowUs, .desel, .sleep c.resetSettleUs, .rst false false, .sleep c.resetRecoveryUs]
    (.bool true)

/-- `PROTECT(m)` (R219): the wait, then the sequence with the write-protect line active around it. -/
def protect (c : Cfg) (m : Magic) : List Micro :=
  wait c ++ [.wp true] ++ frame (magicFrame m c.dummy.protection) .ignore ++ [.desel, .wp false]

/-- `enable_sector_protection()` (R220). -/
def enableProtectionJob (c : Cfg) (_r : Regs) : Option Job :=
  jobIf true .enableSectorProtection (protect c c.opc.enableSectorProtection)

/-- `disable_sector_protection()` (R221). -/
def disableProtectionJob (c : Cfg) (_r : Regs) : Option Job :=
  jobIf true .disableSectorProtection (protect c c.opc.disableSectorProtection)

/-- `erase_protection_register()` (R222). -/
def eraseProtectionJob (c : Cfg) (_r : Regs) : Option Job :=
  jobIf true .eraseProtectionRegister (protect c c.opc.eraseProtectionRegister)

/-- `deep_power_down()` (R213). -/
def execDeepPowerDown (s : State) : Outcome := whenReady deepPowerDownJob s

/-- `resume_from_deep_power_down()` (R214). -/
def execResumeFromDeepPowerDown (s : State) : Outcome := whenReady resumeJob s

/-- `hard_reset()` (R215). -/
def execHardReset (s : State) : Outcome := whenReady hardResetJob s

/-- `enable_sector_protection()` (R220). -/
def execEnableSectorProtection (s : State) : Outcome := whenReady enableProtectionJob s

/-- `disable_sector_protection()` (R221). -/
def execDisableSectorProtection (s : State) : Outcome := whenReady disableProtectionJob s

/-- `erase_protection_register()` (R222). -/
def execEraseProtectionRegister (s : State) : Outcome := whenReady eraseProtectionJob s

/-- The frame `DEEP_POWER_DOWN` (row 20 of R100), by its rule R213. -/
def execDeepPowerDownFrame (s : State) : Outcome := whenReady deepPowerDownJob s

/-- The frame `RESUME_FROM_DEEP_POWER_DOWN` (row 21 of R100), by its rule R214. -/
def execResumeFromDeepPowerDownFrame (s : State) : Outcome := whenReady resumeJob s

/-- The frame `ENABLE_SECTOR_PROTECTION` (row 22 of R100), by its rule R220. -/
def execEnableSectorProtectionFrame (s : State) : Outcome := whenReady enableProtectionJob s

/-- The frame `DISABLE_SECTOR_PROTECTION` (row 23 of R100), by its rule R221. -/
def execDisableSectorProtectionFrame (s : State) : Outcome := whenReady disableProtectionJob s

/-- The frame `ERASE_PROTECTION_REGISTER` (row 24 of R100), by its rule R222. -/
def execEraseProtectionRegisterFrame (s : State) : Outcome := whenReady eraseProtectionJob s

end Sys2Proof.Machine
end

