-- ==== Sys2Proof/Machine/Transfer.lean ====
section
/-! DEFINITION. Buffer and page transfers, erases and compare (spec/43_transfer_erase_compare.md R190 to R197) and the
wire frames they send. Each sends one `F_ADDR` frame and then a start (R195). -/

namespace Sys2Proof.Machine

/-- The field of a page-only frame: `trunc24(page << bb)` (R62, R95). -/
def pageOnlyField (b : AddressBits) (page : Operand) : Field := pageField b page 0

/-- The opcode of `buffer_to_page`, by buffer and erase mode (R102, R190). -/
def bufferToPageOpcode (o : Opcodes) (bufferNum : Byte) : EraseMode → Byte
  | .auto => byBuffer bufferNum o.buffer1ToPageWithErase o.buffer2ToPageWithErase
  | .manual => byBuffer bufferNum o.buffer1ToPageWithoutErase o.buffer2ToPageWithoutErase

/-- A frame with an address field, followed by a start (R92, R195). -/
def startedFrame (opcode : Byte) (field : Field) (pads : Nat) : List Micro :=
  frame (addressFrame opcode field pads) .ignore ++ start

/-- `buffer_to_page(buffer_num, page)` (R190): no wait before the frame. -/
def bufferToPageJob (bufferNum : Byte) (page : Operand) (c : Cfg) (r : Regs) : Option Job :=
  jobIf (bufferNumLegal bufferNum && pageInRange r.bits page) (.bufferToPage bufferNum page)
    (startedFrame (bufferToPageOpcode c.opc bufferNum r.eraseMode) (pageOnlyField r.bits page) c.dummy.bufferToPage)

/-- `page_to_buffer(page, buffer_num)` (R191). -/
def pageToBufferJob (page : Operand) (bufferNum : Byte) (c : Cfg) (r : Regs) : Option Job :=
  jobIf (bufferNumLegal bufferNum && pageInRange r.bits page) (.pageToBuffer page bufferNum)
    (startedFrame (byBuffer bufferNum c.opc.pageToBuffer1 c.opc.pageToBuffer2) (pageOnlyField r.bits page)
      c.dummy.pageToBuffer)

/-- `page_erase(page)` (R192): the wait comes first. -/
def pageEraseJob (page : Operand) (c : Cfg) (r : Regs) : Option Job :=
  jobIf (pageInRange r.bits page) (.pageErase page)
    (wait c ++ startedFrame c.opc.pageErase (pageOnlyField r.bits page) c.dummy.pageErase)

/-- `block_erase(block)` (R193). -/
def blockEraseJob (block : Operand) (c : Cfg) (r : Regs) : Option Job :=
  jobIf (blockInRange r.bits block) (.blockErase block)
    (wait c ++ startedFrame c.opc.blockErase (blockField r.bits block) c.dummy.blockErase)

/-- `sector_erase(sector)` (R194). -/
def sectorEraseJob (sector : Sector) (c : Cfg) (r : Regs) : Option Job :=
  jobIf (sectorInRange r.bits sector) (.sectorErase sector)
    (wait c ++ startedFrame c.opc.sectorErase (sectorField r.bits sector) c.dummy.sectorErase)

/-- `compare_page_to_buffer(page, buffer_num)` (R197): the frame, the start, the wait, and one more status frame whose
bit 6 is the result. -/
def compareJob (page : Operand) (bufferNum : Byte) (c : Cfg) (r : Regs) : Option Job :=
  jobIf (bufferNumLegal bufferNum && pageInRange r.bits page) (.comparePageToBuffer page bufferNum)
    (startedFrame (byBuffer bufferNum c.opc.comparePageToBuffer1 c.opc.comparePageToBuffer2) (pageOnlyField r.bits page)
        c.dummy.compare ++ wait c ++ frame (statusFrame c) .compare)

/-- `buffer_to_page(buffer_num, page)` (R190). -/
def execBufferToPage (bufferNum : Byte) (page : Operand) (s : State) : Outcome :=
  whenReady (bufferToPageJob bufferNum page) s

/-- `page_to_buffer(page, buffer_num)` (R191). -/
def execPageToBuffer (page : Operand) (bufferNum : Byte) (s : State) : Outcome :=
  whenReady (pageToBufferJob page bufferNum) s

/-- `page_erase(page)` (R192). -/
def execPageErase (page : Operand) (s : State) : Outcome := whenReady (pageEraseJob page) s

/-- `block_erase(block)` (R193). -/
def execBlockErase (block : Operand) (s : State) : Outcome := whenReady (blockEraseJob block) s

/-- `sector_erase(sector)` (R194). -/
def execSectorErase (sector : Sector) (s : State) : Outcome := whenReady (sectorEraseJob sector) s

/-- `compare_page_to_buffer(page, buffer_num)` (R197). -/
def execComparePageToBuffer (page : Operand) (bufferNum : Byte) (s : State) : Outcome :=
  whenReady (compareJob page bufferNum) s

/-- A page-only frame: the page its field carries (R105); a field with offset bits set is not one. -/
def ofPage (job : Operand → Cfg → Regs → Option Job) (field : Field) (c : Cfg) (r : Regs) : Option Job :=
  let page := pageOfField r.bits field
  jobOfField field (pageOnlyField r.bits page) (job page c r)

/-- A frame of `buffer_to_page` is sent in the erase mode its opcode stands for, and in no other (R102). -/
def inMode (mode : EraseMode) (job : Cfg → Regs → Option Job) (c : Cfg) (r : Regs) : Option Job :=
  if r.eraseMode = mode then job c r else none

/-- The frame `BUFFER_1_TO_PAGE_WITH_ERASE` (row 9 of R100), by its rule R190. -/
def execBuffer1ToPageWithEraseFrame (field : Field) (s : State) : Outcome :=
  whenReady (inMode .auto (ofPage (bufferToPageJob 0) field)) s

/-- The frame `BUFFER_2_TO_PAGE_WITH_ERASE` (row 10 of R100), by its rule R190. -/
def execBuffer2ToPageWithEraseFrame (field : Field) (s : State) : Outcome :=
  whenReady (inMode .auto (ofPage (bufferToPageJob 1) field)) s

/-- The frame `BUFFER_1_TO_PAGE_WITHOUT_ERASE` (row 11 of R100), by its rule R190. -/
def execBuffer1ToPageWithoutEraseFrame (field : Field) (s : State) : Outcome :=
  whenReady (inMode .manual (ofPage (bufferToPageJob 0) field)) s

/-- The frame `BUFFER_2_TO_PAGE_WITHOUT_ERASE` (row 12 of R100), by its rule R190. -/
def execBuffer2ToPageWithoutEraseFrame (field : Field) (s : State) : Outcome :=
  whenReady (inMode .manual (ofPage (bufferToPageJob 1) field)) s

/-- The frame `PAGE_TO_BUFFER_1` (row 13 of R100), by its rule R191. -/
def execPageToBuffer1Frame (field : Field) (s : State) : Outcome :=
  whenReady (ofPage (fun page => pageToBufferJob page 0) field) s

/-- The frame `PAGE_TO_BUFFER_2` (row 14 of R100), by its rule R191. -/
def execPageToBuffer2Frame (field : Field) (s : State) : Outcome :=
  whenReady (ofPage (fun page => pageToBufferJob page 1) field) s

/-- The frame `PAGE_ERASE` (row 15 of R100), by its rule R192. -/
def execPageEraseFrame (field : Field) (s : State) : Outcome := whenReady (ofPage pageEraseJob field) s

/-- The frame `BLOCK_ERASE` (row 16 of R100), by its rule R193. -/
def execBlockEraseFrame (field : Field) (s : State) : Outcome :=
  whenReady (fun c r =>
    let block := blockOfField r.bits field
    jobOfField field (blockField r.bits block) (blockEraseJob block c r)) s

/-- The frame `SECTOR_ERASE` (row 17 of R100), by its rule R194. -/
def execSectorEraseFrame (field : Field) (s : State) : Outcome :=
  whenReady (fun c r =>
    let sector := sectorOfField r.bits field
    jobOfField field (sectorField r.bits sector) (sectorEraseJob sector c r)) s

/-- The frame `COMPARE_PAGE_TO_BUFFER_1` (row 18 of R100), by its rule R197. -/
def execComparePageToBuffer1Frame (field : Field) (s : State) : Outcome :=
  whenReady (ofPage (fun page => compareJob page 0) field) s

/-- The frame `COMPARE_PAGE_TO_BUFFER_2` (row 19 of R100), by its rule R197. -/
def execComparePageToBuffer2Frame (field : Field) (s : State) : Outcome :=
  whenReady (ofPage (fun page => compareJob page 1) field) s

end Sys2Proof.Machine
end

