-- ==== Sys2Proof/Machine/Dispatch.lean ====
section
/-! DEFINITION. Dispatch: one arm per row of spec/opcode_table.json, each the direct call of that row's meaning (R110, R100). -/

namespace Sys2Proof.Machine

def exec (i : Instr) (s : State) : Host.Outcome State Fault Refusal :=
  match i with
  | .setup => Sys2Proof.Machine.execSetup s
  | .endOp => Sys2Proof.Machine.execEnd s
  | .setEraseMode mode => Sys2Proof.Machine.execSetEraseMode mode s
  | .readStatus => Sys2Proof.Machine.execReadStatus s
  | .isReady => Sys2Proof.Machine.execIsReady s
  | .waitUntilReady => Sys2Proof.Machine.execWaitUntilReady s
  | .readId => Sys2Proof.Machine.execReadId s
  | .pageRead page offset => Sys2Proof.Machine.execPageRead page offset s
  | .arrayRead page offset => Sys2Proof.Machine.execArrayRead page offset s
  | .bufferRead bufferNum offset => Sys2Proof.Machine.execBufferRead bufferNum offset s
  | .bufferWrite bufferNum offset => Sys2Proof.Machine.execBufferWrite bufferNum offset s
  | .bufferToPage bufferNum page => Sys2Proof.Machine.execBufferToPage bufferNum page s
  | .pageToBuffer page bufferNum => Sys2Proof.Machine.execPageToBuffer page bufferNum s
  | .pageErase page => Sys2Proof.Machine.execPageErase page s
  | .blockErase block => Sys2Proof.Machine.execBlockErase block s
  | .sectorErase sector => Sys2Proof.Machine.execSectorErase sector s
  | .comparePageToBuffer page bufferNum => Sys2Proof.Machine.execComparePageToBuffer page bufferNum s
  | .deepPowerDown => Sys2Proof.Machine.execDeepPowerDown s
  | .resumeFromDeepPowerDown => Sys2Proof.Machine.execResumeFromDeepPowerDown s
  | .hardReset => Sys2Proof.Machine.execHardReset s
  | .enableSectorProtection => Sys2Proof.Machine.execEnableSectorProtection s
  | .disableSectorProtection => Sys2Proof.Machine.execDisableSectorProtection s
  | .eraseProtectionRegister => Sys2Proof.Machine.execEraseProtectionRegister s
  | .reserved17 => Sys2Proof.Machine.execReserved17 s
  | .reserved18to1F low => Sys2Proof.Machine.execReserved18to1F low s
  | .statusReadFrame => Sys2Proof.Machine.execStatusReadFrame s
  | .idReadFrame => Sys2Proof.Machine.execIdReadFrame s
  | .pageReadFrame field => Sys2Proof.Machine.execPageReadFrame field s
  | .arrayReadFrame field => Sys2Proof.Machine.execArrayReadFrame field s
  | .buffer1ReadFrame field => Sys2Proof.Machine.execBuffer1ReadFrame field s
  | .buffer2ReadFrame field => Sys2Proof.Machine.execBuffer2ReadFrame field s
  | .buffer1WriteFrame field => Sys2Proof.Machine.execBuffer1WriteFrame field s
  | .buffer2WriteFrame field => Sys2Proof.Machine.execBuffer2WriteFrame field s
  | .buffer1ToPageWithEraseFrame field => Sys2Proof.Machine.execBuffer1ToPageWithEraseFrame field s
  | .buffer2ToPageWithEraseFrame field => Sys2Proof.Machine.execBuffer2ToPageWithEraseFrame field s
  | .buffer1ToPageWithoutEraseFrame field => Sys2Proof.Machine.execBuffer1ToPageWithoutEraseFrame field s
  | .buffer2ToPageWithoutEraseFrame field => Sys2Proof.Machine.execBuffer2ToPageWithoutEraseFrame field s
  | .pageToBuffer1Frame field => Sys2Proof.Machine.execPageToBuffer1Frame field s
  | .pageToBuffer2Frame field => Sys2Proof.Machine.execPageToBuffer2Frame field s
  | .pageEraseFrame field => Sys2Proof.Machine.execPageEraseFrame field s
  | .blockEraseFrame field => Sys2Proof.Machine.execBlockEraseFrame field s
  | .sectorEraseFrame field => Sys2Proof.Machine.execSectorEraseFrame field s
  | .comparePageToBuffer1Frame field => Sys2Proof.Machine.execComparePageToBuffer1Frame field s
  | .comparePageToBuffer2Frame field => Sys2Proof.Machine.execComparePageToBuffer2Frame field s
  | .deepPowerDownFrame => Sys2Proof.Machine.execDeepPowerDownFrame s
  | .resumeFromDeepPowerDownFrame => Sys2Proof.Machine.execResumeFromDeepPowerDownFrame s
  | .enableSectorProtectionFrame => Sys2Proof.Machine.execEnableSectorProtectionFrame s
  | .disableSectorProtectionFrame => Sys2Proof.Machine.execDisableSectorProtectionFrame s
  | .eraseProtectionRegisterFrame => Sys2Proof.Machine.execEraseProtectionRegisterFrame s

end Sys2Proof.Machine
end

