-- ==== Sys2Proof/Machine/Step.lean ====
section
/-! DEFINITION. One step of the machine: the next turn (`nextTurn` in Sys2Proof/Machine/Ops.lean) and, where it is an
instruction, its execution. Three outcomes: a next state, a fault (there is none), a refusal. -/

namespace Sys2Proof.Machine

/-- One step. -/
def step (s : State) : Host.Outcome State Fault Refusal :=
  match nextTurn s with
  | .stop o => o
  | .run i s' => exec i s'

/-- `s` with the table word `w` of `nbits` bits as the host's next move, so that the very next step executes it. -/
def State.withFetchWord (s : State) (nbits w : Nat) : State := placeWord s nbits w

end Sys2Proof.Machine
end

