-- ==== Sys2Proof/Safety.lean ====
section
/-! DEFINITION. The terms the claims use: the events and answers of a whole frame and of a wait, the state after a
sequence of events, the invariant of the machine, and the spec's tables of errors, phases and event counts. -/

namespace Sys2Proof.Machine

/-! ## Frames, waits and the state after them -/

/-- The transport's answers to one frame `Desel; Sel; Xchg` (R91). -/
structure Reply where
  desel : Answer
  sel   : Answer
  xchg  : Answer
  deriving DecidableEq, Repr

/-- Byte `k` of a byte list that has one. -/
def byteAt (bytes : List Byte) (k : Nat) : Byte := bytes.getD k 0

/-- The reply lets the frame through: three times `ok`, and `len` bytes at least are there to come back. -/
def Reply.good (p : Reply) (len : Nat) : Prop :=
  p.desel.ok = true ∧ p.sel.ok = true ∧ p.xchg.ok = true ∧ len ≤ p.xchg.bytes.length

/-- The bytes a status frame needs from its answer: those it shifts in (R256), and `in[1]` (R150), which the frame
lacks only under a `cfg.DUMMY` that makes it too short (log 34). -/
def statusLength (c : Cfg) : Nat := max 2 (statusFrame c).length

/-- The bytes an ID frame needs from its answer: those it shifts in (R256), and `in[1..4]` (R156; log 34). -/
def idLength (c : Cfg) : Nat := max 5 (idFrame c).length

/-- The reply as the transport's next three answers. -/
def Reply.answers (p : Reply) : List Answer := [p.desel, p.sel, p.xchg]

/-- The status byte a reply to a status frame carries (R150). -/
def Reply.status (p : Reply) : Byte := byteAt p.xchg.bytes 1

/-- The three events of a frame that got this reply: as many bytes back as went out (R91, R256). -/
def Reply.events (p : Reply) (out : List Byte) : List Event :=
  [.desel true, .sel true, .xchg out (some (p.xchg.bytes.take out.length))]

/-- The two events of a start (R92). -/
def startEvents : List Event := [.desel true, .sel true]

/-- The answers to a run of polls. -/
def pollAnswers (ps : List Reply) : List Answer := ps.flatMap Reply.answers

/-- The events of a run of polls: one whole status frame each (R153 (a)). -/
def pollEvents (c : Cfg) (ps : List Reply) : List Event := ps.flatMap fun p => p.events (statusFrame c)

/-- Every poll of the run is answered, with the chip busy (R153). -/
def allBusy (c : Cfg) (ps : List Reply) : Prop :=
  ∀ p ∈ ps, p.good (statusLength c) ∧ rdy p.status = false

/-- A run of polls on which `WAIT()` ends normally: the last is the first with `RDY = 1`, and under a budget `n` there
are at most `n` (R153, big-step). -/
def waitEnds (c : Cfg) (ps : List Reply) : Prop :=
  ∃ busy last, ps = busy ++ [last] ∧ allBusy c busy ∧ last.good (statusLength c) ∧ rdy last.status = true
    ∧ ∀ n, c.pollBudget = some n → ps.length ≤ n

/-- Whether an event is a call the transport answers (R256: all but `Sleep`). -/
def Event.answered : Event → Bool
  | .sleep _ => false
  | .sel _ | .desel _ | .xchg _ _ | .rst _ _ | .wp _ _ | .hostXchg _ _ | .hostDesel _ => true

/-- The state after the events `es`: the trace grows by them, the lines and the open frame follow them (R15, R44, R176),
the answered ones are counted, and nothing else changes. -/
def State.recorded (s : State) (es : List Event) : State :=
  { s with trace := s.trace ++ es, lines := es.foldl Lines.after s.lines,
           frameOpen := es.foldl openAfter s.frameOpen, asked := s.asked + es.countP Event.answered }

/-- The state when the operation `op` has returned `v` after the events `es`, with the answers `rest` still to come. -/
def State.returned (s : State) (rest : List Answer) (es : List Event) (op : Instr) (v : Value) : State :=
  ((s.recorded es).finish op v).setAnswers rest

/-- The state when an operation has raised `e` after the events `es`, with the answers `rest` still to come. -/
def State.raised (s : State) (rest : List Answer) (es : List Event) (e : ErrorKind) : State :=
  ((s.recorded es).raiseError e).setAnswers rest

/-- No operation is in progress and the phase is `Ready` with registers `r`: where every operation but `setup` executes
(R243, R254). -/
def State.readyWith (s : State) (r : Regs) : Prop := s.seq = .idle ∧ s.handle = .ready r

/-- The state after a rejection (R243, R244, R245, R246): the response is `Err(PreconditionViolation)`, DFCE is idle,
and nothing else changes. -/
def State.rejected (s : State) : State :=
  { s with seq := .idle, bw := .atRest, response := some (.err .preconditionViolation) }

/-- The state with another erase mode, where the handle has one (R35). -/
def State.withMode (s : State) (m : EraseMode) : State :=
  match s.handle with
  | .ready r => { s with handle := .ready { r with eraseMode := m } }
  | .uninitialized => s
  | .failed => s

/-! ## The invariant -/

/-- The handle's index is a row of the table and its widths are that row's, for one value of the page-size flag
(R32, R33). -/
def handleLegal (c : Cfg) (r : Regs) : Prop :=
  r.densityIndex.toNat ≤ 6 ∧ ∃ f, geometryFor c.geom r.densityIndex.toNat f = some r.bits

/-- Items that write or judge the handle stand at the end of `setup`'s list and nowhere else, and the widths they carry
are a row's (R51, R210); the reset line is driven by `hard_reset` alone (R215). -/
def todoLegal (c : Cfg) (op : Instr) : List Micro → Prop
  | [] => op ≠ .setup
  | .xchg _ (.latchId index bits) :: rest =>
    rest = [] ∧ op = .setup ∧ index.toNat ≤ 6 ∧ ∃ f, geometryFor c.geom index.toNat f = some bits
  | .xchg _ .density :: rest => rest = [] ∧ op = .setup
  | .rst _ _ :: rest => op = .hardReset ∧ todoLegal c op rest
  | _ :: rest => todoLegal c op rest

/-- The next item asks for an answer. -/
def headAnswered : List Micro → Bool
  | [] => false
  | .sleep _ :: _ => false
  | .waitStart :: _ => false
  | _ => true

/-- The operations that emit events: those of R110 but `end` and `set_erase_mode` (R211, R212). -/
def emitsEvents : Instr → Bool
  | .setup | .readStatus | .isReady | .waitUntilReady | .readId
  | .pageRead _ _ | .arrayRead _ _ | .bufferRead _ _ | .bufferWrite _ _ | .bufferToPage _ _ | .pageToBuffer _ _
  | .pageErase _ | .blockErase _ | .sectorErase _ | .comparePageToBuffer _ _ | .deepPowerDown
  | .resumeFromDeepPowerDown | .hardReset | .enableSectorProtection | .disableSectorProtection
  | .eraseProtectionRegister => true
  | _ => false

/-- The phase in which the operation runs: `setup` in `Uninitialized`, every other in `Ready` (R243, R254). -/
def runPhase (op : Instr) : Phase := if op = .setup then .uninitialized else .ready

/-- What the sequencer and the busy-wait registers satisfy (R36, R37). -/
def seqLegal (s : State) : Prop :=
  match s.seq with
  | .idle => s.bw = .atRest
  | .run op _ todo _ =>
    emitsEvents op = true ∧ s.handle.phase = runPhase op ∧ s.response = none ∧ headAnswered todo = true
      ∧ todoLegal s.cfg op todo ∧ (s.bw.state = .idle ∨ s.bw.state = .issue)

/-- `bw.count` is absent without a budget and at most `n` under a budget `n` (R37). -/
def countLegal (s : State) : Prop :=
  match s.cfg.pollBudget with
  | none => s.bw.count = 0
  | some n => s.bw.count ≤ n

/-- The invariant of the machine. -/
def State.Inv (s : State) : Prop :=
  cfgWellFormed s.cfg = true ∧ (∀ r, s.handle = .ready r → handleLegal s.cfg r) ∧ seqLegal s ∧ countLegal s

/-! ## The spec's tables -/

/-- The operation a row stands for: a frame row is the operation that sends it (R100), here without its operands. -/
inductive Kind where
  | setup | endOp | setEraseMode | readStatus | isReady | waitUntilReady | readId | pageRead | arrayRead
  | bufferRead | bufferWrite | bufferToPage | pageToBuffer | pageErase | blockErase | sectorErase | compare
  | deepPowerDown | resume | hardReset | protection | reserved
  deriving DecidableEq, Repr

/-- The kind of a row (R100, R110). -/
def kindOf : Instr → Kind
  | .setup => .setup
  | .endOp => .endOp
  | .setEraseMode _ => .setEraseMode
  | .readStatus | .statusReadFrame => .readStatus
  | .isReady => .isReady
  | .waitUntilReady => .waitUntilReady
  | .readId | .idReadFrame => .readId
  | .pageRead _ _ | .pageReadFrame _ => .pageRead
  | .arrayRead _ _ | .arrayReadFrame _ => .arrayRead
  | .bufferRead _ _ | .buffer1ReadFrame _ | .buffer2ReadFrame _ => .bufferRead
  | .bufferWrite _ _ | .buffer1WriteFrame _ | .buffer2WriteFrame _ => .bufferWrite
  | .bufferToPage _ _ | .buffer1ToPageWithEraseFrame _ | .buffer2ToPageWithEraseFrame _
  | .buffer1ToPageWithoutEraseFrame _ | .buffer2ToPageWithoutEraseFrame _ => .bufferToPage
  | .pageToBuffer _ _ | .pageToBuffer1Frame _ | .pageToBuffer2Frame _ => .pageToBuffer
  | .pageErase _ | .pageEraseFrame _ => .pageErase
  | .blockErase _ | .blockEraseFrame _ => .blockErase
  | .sectorErase _ | .sectorEraseFrame _ => .sectorErase
  | .comparePageToBuffer _ _ | .comparePageToBuffer1Frame _ | .comparePageToBuffer2Frame _ => .compare
  | .deepPowerDown | .deepPowerDownFrame => .deepPowerDown
  | .resumeFromDeepPowerDown | .resumeFromDeepPowerDownFrame => .resume
  | .hardReset => .hardReset
  | .enableSectorProtection | .enableSectorProtectionFrame => .protection
  | .disableSectorProtection | .disableSectorProtectionFrame => .protection
  | .eraseProtectionRegister | .eraseProtectionRegisterFrame => .protection
  | .reserved17 | .reserved18to1F _ => .reserved

/-- The operations that contain a `WAIT()` (R74, R276). -/
def Kind.waits : Kind → Bool
  | .waitUntilReady | .bufferRead | .bufferWrite | .pageErase | .blockErase | .sectorErase | .compare
  | .protection => true
  | _ => false

/-- The errors each operation can return (R262): `Timeout` only under a poll budget. -/
def Kind.errors (budget : Option Nat) : Kind → List ErrorKind
  | .setup => [.preconditionViolation, .setupFailure, .transportFailure]
  | .endOp | .setEraseMode | .reserved => [.preconditionViolation]
  | .readStatus | .isReady | .readId | .pageRead | .arrayRead | .bufferToPage | .pageToBuffer | .deepPowerDown
  | .resume | .hardReset => [.preconditionViolation, .transportFailure]
  | .waitUntilReady | .bufferRead | .bufferWrite | .pageErase | .blockErase | .sectorErase | .compare
  | .protection =>
    if budget.isSome then [.preconditionViolation, .transportFailure, .timeout]
    else [.preconditionViolation, .transportFailure]

/-- The number of events of an operation that returned `v` after `p` polls (R292). -/
def Kind.eventCount (p : Nat) (v : Value) : Kind → Nat
  | .readStatus | .isReady | .readId | .pageRead | .arrayRead => 3
  | .waitUntilReady => 3 * p
  | .bufferRead | .bufferWrite => 3 * p + 3
  | .bufferToPage | .pageToBuffer => 5
  | .pageErase | .blockErase | .sectorErase => 3 * p + 5
  | .compare => 5 + 3 * p + 3
  | .deepPowerDown => 4
  | .resume => 5
  | .hardReset => if v = .bool true then 6 else 1
  | .protection => 3 * p + 6
  | .setup => 6
  | .endOp | .setEraseMode | .reserved => 0

/-- The phase after an operation, by the phase before and the response (R34, the complete table but for hardware
reset). -/
def phaseAfter (op : Instr) (before : Phase) (response : Option Response) : Phase :=
  match before with
  | .uninitialized =>
    if op = .setup then
      match response with
      | some (.ok _) => .ready
      | some (.err .setupFailure) => .failed
      | _ => .uninitialized
    else .uninitialized
  | .ready => if op = .endOp then .uninitialized else .ready
  | .failed => .failed

/-- The handle registers an operation may write (R51): `setup`, `end` and `set_erase_mode` write, no other does. -/
def writesHandle (op : Instr) : Bool :=
  match kindOf op with
  | .setup | .endOp | .setEraseMode => true
  | _ => false

/-- The answer `fail` (R242): `Rst`, `Wp` and `Sleep` have none. -/
def Event.failed : Event → Bool
  | .sel ok => !ok
  | .desel ok => !ok
  | .xchg _ answer => answer.isNone
  | .hostXchg _ answer => answer.isNone
  | .hostDesel ok => !ok
  | .rst _ _ | .wp _ _ | .sleep _ => false

/-- Every `Xchg` comes right after `Desel; Sel`, both answered `ok` (R91); `a` and `b` are the two events before the
list. -/
def framed (a b : Option Event) : List Event → Bool
  | [] => true
  | .xchg out answer :: es =>
    decide (a = some (.desel true)) && decide (b = some (.sel true)) && framed b (some (.xchg out answer)) es
  | e :: es => framed b (some e) es

/-- The format's length in bytes of a frame row under `cfg` (R93, R97); 0 for a request row. -/
def Kind.frameLength (c : Cfg) : Kind → Nat
  | .readStatus => 1 + c.dummy.status
  | .readId => 1 + c.dummy.id
  | .pageRead => 4 + c.dummy.pageRead
  | .arrayRead => 4 + c.dummy.arrayRead
  | .bufferRead => 4 + c.dummy.bufferRead
  | .bufferWrite => 4 + c.dummy.bufferWrite
  | .bufferToPage => 4 + c.dummy.bufferToPage
  | .pageToBuffer => 4 + c.dummy.pageToBuffer
  | .pageErase => 4 + c.dummy.pageErase
  | .blockErase => 4 + c.dummy.blockErase
  | .sectorErase => 4 + c.dummy.sectorErase
  | .compare => 4 + c.dummy.compare
  | .deepPowerDown => 1 + c.dummy.deepPowerDown
  | .resume => 1 + c.dummy.resume
  | .protection => 4 + c.dummy.protection
  | .setup | .endOp | .setEraseMode | .isReady | .waitUntilReady | .hardReset | .reserved => 0

end Sys2Proof.Machine
end

