-- ==== Sys2Proof/Certificates/Slice0/Obligations.lean ====
section
/-! DEFINITION. The statements for the provers, each with the rule of spec/ it formalises. -/

open Sys2Proof Sys2Proof.Machine

/-! ## Encodings and the pure functions -/

/-- R105, R110, R111: decoding what the encoder writes gives the instruction back, every operand at every value. The
frames carry the zeros cfg.DUMMY counts (R90, R94; log 36, DEDUCED). -/
def Obligations.DecodeOfEncodeIsIdentity : Prop :=
  ∀ (c : Cfg) (i : Instr), cfgWellFormed c = true → decode c (encode c i) = .ok i

/-- R104, R105: a byte list that decodes to a frame is exactly the frame the encoder writes for it, under any `cfg`.
The frames carry the zeros cfg.DUMMY counts (R90, R94; log 36, DEDUCED). -/
def Obligations.EncodeOfDecodedFrame : Prop :=
  ∀ (c : Cfg) (bytes : List Byte) (i : Instr), decodeFrame c bytes = .ok i → encode c i = .frame bytes

/-- R100, R110, R111: words written out from the encoding tables decode to the instructions they stand for. The words
of the frames are read under `Config.default`: that of ERASE_PROTECTION_REGISTER rests on a G3 value (log 19,
PRESUMED), that BLOCK_ERASE ends after its address on a G4 count (log 20, PRESUMED), and that a frame is presented at
all is the model's choice (log 7). -/
def Obligations.SpecWordsDecode : Prop :=
  decode Config.default (.frame [0xD7, 0x00]) = .ok .statusReadFrame
  ∧ decode Config.default (.frame [0xD2, 0x01, 0x90, 0x32, 0, 0, 0, 0]) = .ok (.pageReadFrame 0x019032)
  ∧ decode Config.default (.frame [0x50, 0x3F, 0xE0, 0x00]) = .ok (.blockEraseFrame 0x3FE000)
  ∧ decode Config.default (.frame [0x3D, 0x2A, 0x7F, 0xCF]) = .ok .eraseProtectionRegisterFrame
  ∧ decode Config.default (.request ⟨0x0B, 5, 0xFFFF, 0xFFFF, 1, 3, 0xFF, 1⟩) = .ok (.bufferToPage 1 5)
  ∧ decode Config.default (.request ⟨0x0F, 0, 0, 0, 0, 0, 0x1F, 0⟩) = .ok (.sectorErase (.sn 0x1F))
  ∧ decode Config.default (.request ⟨0x1D, 0, 0, 0, 0, 0, 0, 0⟩) = .ok (.reserved18to1F 5)

/-- R134: the source's byte form and the field form of a page and offset give the same three bytes, and the field fits
24 bits. -/
def Obligations.ByteFormEqualsFieldForm : Prop :=
  ∀ bb page offset : Nat, 8 ≤ bb → bb ≤ 16 → page < 2 ^ (24 - bb) → offset < 2 ^ bb →
    ((page <<< bb) ||| offset) < 2 ^ 24
    ∧ bytes3 (BitVec.ofNat 24 ((page <<< bb) ||| offset))
      = [(encodePageAddress page bb).1, (encodePageAddress page bb).2 ||| BitVec.ofNat 8 (offset >>> 8),
         BitVec.ofNat 8 offset]

/-- R137: the inverse shifts recover the page from the two bytes; with the rule's worked example. -/
def Obligations.PageAddressRoundTrip : Prop :=
  (∀ bb page : Nat, 8 ≤ bb → bb ≤ 11 → page < 2 ^ (24 - bb) →
    (((encodePageAddress page bb).1.toNat <<< (16 - bb)) ||| ((encodePageAddress page bb).2.toNat >>> (bb - 8))) = page)
  ∧ encodePageAddress 100 10 = (0x01, 0x90)

/-- R141: under a well-formed `cfg` no in-range operand loses a bit: each field is below `2^(bb+pb) <= 2^24`. -/
def Obligations.InRangeFieldsLoseNoBit : Prop :=
  ∀ (c : Cfg) (i : Nat) (f : Bool) (b : AddressBits), cfgWellFormed c = true → geometryFor c.geom i f = some b →
    b.buffer + b.page ≤ 24
    ∧ (∀ page offset : Operand, page.toNat < 2 ^ b.page → offset.toNat < 2 ^ b.buffer →
        (pageField b page offset).toNat = ((page.toNat <<< b.buffer) ||| offset.toNat)
        ∧ (pageField b page offset).toNat < 2 ^ (b.buffer + b.page))
    ∧ (∀ block : Operand, block.toNat < 2 ^ (b.page - 3) →
        (blockField b block).toNat = block.toNat <<< (b.buffer + 3)
        ∧ (blockField b block).toNat < 2 ^ (b.buffer + b.page))
    ∧ (sectorField b .s0A).toNat = 0
    ∧ (sectorField b .s0B).toNat = 1 <<< (b.buffer + 3) ∧ (sectorField b .s0B).toNat < 2 ^ (b.buffer + b.page)
    ∧ (∀ n : Byte, 1 ≤ n.toNat → n.toNat < 2 ^ b.sector →
        (sectorField b (.sn n)).toNat = n.toNat <<< (b.buffer + b.page - b.sector)
        ∧ (sectorField b (.sn n)).toNat < 2 ^ (b.buffer + b.page))

/-- R136: the fields of 0A, 0B and any regular sector are pairwise distinct, and 0B's shares no set bit with a regular
sector's; two regular sectors have different fields. -/
def Obligations.SectorFieldsDisjoint : Prop :=
  ∀ (c : Cfg) (i : Nat) (f : Bool) (b : AddressBits) (n m : Byte), cfgWellFormed c = true →
    geometryFor c.geom i f = some b → 1 ≤ n.toNat → n.toNat < 2 ^ b.sector → 1 ≤ m.toNat → m.toNat < 2 ^ b.sector →
    sectorField b .s0A ≠ sectorField b .s0B
    ∧ sectorField b .s0A ≠ sectorField b (.sn n)
    ∧ sectorField b .s0B ≠ sectorField b (.sn n)
    ∧ sectorField b .s0B &&& sectorField b (.sn n) = 0
    ∧ (sectorField b (.sn n) = sectorField b (.sn m) → n = m)

/-- R130: under either rule the index is one less than the raw code of the status byte, and an unsupported code fails. -/
def Obligations.DensityIndexFollowsCode : Prop :=
  (∀ (s : Byte) (i : Nat), densityIndex .mask38Shift3 s = some i ↔ (s.extractLsb' 3 3).toNat = i + 1)
  ∧ (∀ (s : Byte) (i : Nat), densityIndex .mask3CShift2 s = some i ↔ (dens s).toNat = i + 1 ∧ i ≤ 6)
  ∧ densityIndex .mask38Shift3 0x2C = some 4

/-- R131: an index above 6 fails; otherwise the widths are the row's, and the page-size flag takes exactly 1 off the
buffer width, which under a well-formed `cfg` leaves 8 to 11 bits; with the rule's worked examples. -/
def Obligations.GeometryContract : Prop :=
  ∀ (c : Cfg) (i : Nat), cfgWellFormed c = true →
    (6 < i → ∀ f, geometryFor c.geom i f = none)
    ∧ (∀ h : i < 7, ∀ f, ∃ b, geometryFor c.geom i f = some b
        ∧ b.buffer + f.toNat = (c.geom[i]).buffer ∧ b.page = (c.geom[i]).page ∧ b.sector = (c.geom[i]).sector
        ∧ 8 ≤ b.buffer ∧ b.buffer ≤ 11)
    ∧ geometryFor Config.default.geom 4 false = some ⟨10, 12, 4⟩
    ∧ geometryFor Config.default.geom 4 true = some ⟨9, 12, 4⟩

/-- R105: with the widths in hand, a field gives back the in-range operands it was built from. -/
def Obligations.FieldRecoversOperands : Prop :=
  ∀ (c : Cfg) (r : Regs), cfgWellFormed c = true → handleLegal c r →
    (∀ page offset : Operand, page.toNat < 2 ^ r.bits.page → offset.toNat < 2 ^ r.bits.buffer →
        pageOfField r.bits (pageField r.bits page offset) = page
        ∧ offsetOfField r.bits (pageField r.bits page offset) = offset)
    ∧ (∀ offset : Operand, bufferOffsetOfField (offsetField offset) = offset)
    ∧ (∀ block : Operand, block.toNat < 2 ^ (r.bits.page - 3) →
        blockOfField r.bits (blockField r.bits block) = block)
    ∧ (∀ sector : Sector, sectorInRange r.bits sector = true →
        sectorOfField r.bits (sectorField r.bits sector) = sector)

/-! ## The step -/

/-- R36, R48, R111 for requests: a step runs the decoded instruction; the host's move is taken, and nothing else is
done around `exec`. That a frame is presented and run is the model's choice (log 7, DESIGN CHOICE), and so are the
list of host moves (log 6, DESIGN CHOICE) and the reset input (log 23, DESIGN CHOICE); that `cfg` is checked at every
step is log 10 (DEDUCED). -/
def Obligations.StepRunsDecodedInstruction : Prop :=
  ∀ (s : State) (code : Code) (rest : List HostMove) (i : Instr), cfgWellFormed s.cfg = true → s.resetPin = false →
    s.seq = .idle → s.host = .present code :: rest → decode s.cfg code = .ok i →
    step s = exec i { s with host := rest }

/-- R104: bytes that are no DFCE frame are refused by name. The refusal is the model's reading (log 11, DEDUCED), and
so are the frame port (log 7, DESIGN CHOICE), the list of host moves (log 6, DESIGN CHOICE) and the reset input (log
23, DESIGN CHOICE). -/
def Obligations.StepRefusesWhatIsNoFrame : Prop :=
  ∀ (s : State) (bytes : List Byte) (rest : List HostMove) (e : FrameError), cfgWellFormed s.cfg = true →
    s.resetPin = false → s.seq = .idle → s.host = .present (.frame bytes) :: rest → decodeFrame s.cfg bytes = .error e →
    step s = .refused (.notADfceFrame e)

/-- R11: a `cfg` that fails well-formedness is refused, not run, in whatever state. That the check stands at the head
of every step, and its condition on the poll budget beside R11's own, are the model's reading (log 10, DEDUCED). -/
def Obligations.StepRefusesIllFormedCfg : Prop :=
  ∀ s : State, cfgWellFormed s.cfg = false → step s = .refused .illFormedCfg

/-- R34 first row, R49, R270, R271: hardware reset ends whatever is in progress, a spinning wait included, empties the
handle and emits no event. The model's choices in the equation (each a DESIGN CHOICE): the reset input and that the
reset clears it (log 23), `none` for the line levels DFCE does not know (log 12), no open frame (log 13), an empty
response port (log 33). -/
def Obligations.HardwareResetEmptiesHandle : Prop :=
  ∀ s : State, cfgWellFormed s.cfg = true → s.resetPin = true →
    step s = .next { s with handle := .uninitialized, seq := .idle, bw := ⟨.idle, 0⟩, response := none,
                            lines := ⟨none, none, none⟩, frameOpen := false, resetPin := false }

/-- R49: the values after reset. That the trace is empty is the model's choice (log 14, DESIGN CHOICE), and so is
`none` for a line whose level R271 leaves unconstrained (log 12, DESIGN CHOICE). That the handle registers are absent
outside `Ready` is how R39 and R49 are read (log 16, DEDUCED). -/
def Obligations.ResetValues : Prop :=
  State.reset.handle.phase = .uninitialized ∧ State.reset.handle.regs = none ∧ State.reset.seq = .idle
  ∧ State.reset.bw = ⟨.idle, 0⟩ ∧ State.reset.lines = ⟨none, none, none⟩ ∧ State.reset.trace = []

/-- R49: DFCE is idle and waits for a request. That with none to come a step changes nothing is the model's choice
(log 6, DESIGN CHOICE), and so is the reset input (log 23, DESIGN CHOICE). -/
def Obligations.IdleWaitsForRequest : Prop :=
  ∀ s : State, cfgWellFormed s.cfg = true → s.resetPin = false → s.seq = .idle → s.host = [] → step s = .next s

/-- R175, R176: on an open frame the host exchanges bytes, which go into the trace and change nothing else; its
deselection closes the frame; on no open frame there is no exchange. The open-frame note and the refusal are the
model's (log 9, DEDUCED), and so are the forms of the host's moves, of the answers and of the reset input (logs 2, 4,
6 and 23, DESIGN CHOICE). -/
def Obligations.HostStreamsOnOpenFrame : Prop :=
  ∀ (s : State) (a : Answer) (as : List Answer) (rest : List HostMove), cfgWellFormed s.cfg = true →
    s.resetPin = false → s.seq = .idle → s.answers = a :: as →
    (∀ out, s.host = .xchg out :: rest → s.frameOpen = true → a.ok = true → a.bytes.length = out.length →
      step s = .next { s with host := rest, answers := as, asked := s.asked + 1,
                              trace := s.trace ++ [.hostXchg out (some a.bytes)] })
    ∧ (∀ out, s.host = .xchg out :: rest → s.frameOpen = true → a.ok = false →
      step s = .next { s with host := rest, answers := as, asked := s.asked + 1,
                              trace := s.trace ++ [.hostXchg out none] })
    ∧ (∀ out, s.host = .xchg out :: rest → s.frameOpen = false → step s = .refused .hostXchgWithoutOpenFrame)
    ∧ (s.host = .desel :: rest → a.ok = true →
      step s = .next { s with host := rest, answers := as, asked := s.asked + 1,
                              trace := s.trace ++ [.hostDesel true], frameOpen := false,
                              lines := { s.lines with selected := some false } })
    ∧ (s.host = .desel :: rest → a.ok = false →
      step s = .next { s with host := rest, answers := as, asked := s.asked + 1,
                              trace := s.trace ++ [.hostDesel false] })

/-- R10: nothing in `cfg` changes during a run. That `cfg` travels in State is the model's choice (log 1, DESIGN
CHOICE). -/
def Obligations.CfgNeverChanges : Prop :=
  ∀ s t : State, step s = .next t → t.cfg = s.cfg

/-! ## Rejections -/

/-- R243 for the rows of R110: in the wrong phase every operation answers `PreconditionViolation`, emits nothing and
writes nothing. That the 24 frame rows are presented and rejected likewise outside `Ready` is the model's choice (log
7, DESIGN CHOICE; for STATUS_READ and ID_READ also log 35, DEDUCED), not a rule. -/
def Obligations.PhaseCheckRejects : Prop :=
  ∀ (i : Instr) (s : State), s.seq = .idle →
    (i = .setup → s.handle.phase ≠ .uninitialized → exec i s = .next s.rejected)
    ∧ (i ≠ .setup → s.handle.phase ≠ .ready → exec i s = .next s.rejected)

/-- R244: an operand out of range is answered by `PreconditionViolation`, with no event and no register written. -/
def Obligations.OperandRangeRejects : Prop :=
  ∀ (s : State) (r : Regs), s.readyWith r →
    (∀ page offset : Operand, 2 ^ r.bits.page ≤ page.toNat ∨ 2 ^ r.bits.buffer ≤ offset.toNat →
      exec (.pageRead page offset) s = .next s.rejected ∧ exec (.arrayRead page offset) s = .next s.rejected)
    ∧ (∀ (b : Byte) (offset : Operand), 2 ≤ b.toNat ∨ 2 ^ r.bits.buffer ≤ offset.toNat →
      exec (.bufferRead b offset) s = .next s.rejected ∧ exec (.bufferWrite b offset) s = .next s.rejected)
    ∧ (∀ (b : Byte) (page : Operand), 2 ≤ b.toNat ∨ 2 ^ r.bits.page ≤ page.toNat →
      exec (.bufferToPage b page) s = .next s.rejected ∧ exec (.pageToBuffer page b) s = .next s.rejected
      ∧ exec (.comparePageToBuffer page b) s = .next s.rejected)
    ∧ (∀ page : Operand, 2 ^ r.bits.page ≤ page.toNat → exec (.pageErase page) s = .next s.rejected)
    ∧ (∀ block : Operand, 2 ^ (r.bits.page - 3) ≤ block.toNat → exec (.blockErase block) s = .next s.rejected)
    ∧ (∀ n : Byte, n.toNat = 0 ∨ 2 ^ r.bits.sector ≤ n.toNat → exec (.sectorErase (.sn n)) s = .next s.rejected)

/-- R245: request codes `0x17` to `0x1F`, and the illegal sector kind, are rejected with no event in every phase. -/
def Obligations.MalformedRequestRejects : Prop :=
  ∀ s : State, s.seq = .idle →
    exec .reserved17 s = .next s.rejected
    ∧ (∀ low, exec (.reserved18to1F low) s = .next s.rejected)
    ∧ exec (.sectorErase .illegal) s = .next s.rejected

/-- R104: a frame whose field no in-range operand encodes to, or whose opcode stands for the other erase mode, is
never sent. That a row of it, presented, is rejected with no event is the model's choice (log 7, DESIGN CHOICE). -/
def Obligations.FrameOfNoOperandRejected : Prop :=
  ∀ (s : State) (r : Regs) (field : Field), s.readyWith r →
    ((∀ page offset : Operand, page.toNat < 2 ^ r.bits.page → offset.toNat < 2 ^ r.bits.buffer →
        pageField r.bits page offset ≠ field) →
      exec (.pageReadFrame field) s = .next s.rejected ∧ exec (.arrayReadFrame field) s = .next s.rejected)
    ∧ ((∀ offset : Operand, offset.toNat < 2 ^ r.bits.buffer → offsetField offset ≠ field) →
      exec (.buffer1ReadFrame field) s = .next s.rejected ∧ exec (.buffer2ReadFrame field) s = .next s.rejected
      ∧ exec (.buffer1WriteFrame field) s = .next s.rejected ∧ exec (.buffer2WriteFrame field) s = .next s.rejected)
    ∧ ((∀ page : Operand, page.toNat < 2 ^ r.bits.page → pageField r.bits page 0 ≠ field) →
      ∀ i ∈ [Instr.buffer1ToPageWithEraseFrame field, .buffer2ToPageWithEraseFrame field,
             .buffer1ToPageWithoutEraseFrame field, .buffer2ToPageWithoutEraseFrame field, .pageToBuffer1Frame field,
             .pageToBuffer2Frame field, .pageEraseFrame field, .comparePageToBuffer1Frame field,
             .comparePageToBuffer2Frame field], exec i s = .next s.rejected)
    ∧ ((∀ block : Operand, block.toNat < 2 ^ (r.bits.page - 3) → blockField r.bits block ≠ field) →
      exec (.blockEraseFrame field) s = .next s.rejected)
    ∧ ((∀ sector : Sector, sectorInRange r.bits sector = true → sectorField r.bits sector ≠ field) →
      exec (.sectorEraseFrame field) s = .next s.rejected)
    ∧ (r.eraseMode = .manual →
      exec (.buffer1ToPageWithEraseFrame field) s = .next s.rejected
      ∧ exec (.buffer2ToPageWithEraseFrame field) s = .next s.rejected)
    ∧ (r.eraseMode = .auto →
      exec (.buffer1ToPageWithoutEraseFrame field) s = .next s.rejected
      ∧ exec (.buffer2ToPageWithoutEraseFrame field) s = .next s.rejected)

/-- R281 (a), R48: while an operation is in progress there is no move that presents another; the refusal by name is
the model's (log 8, DEDUCED), and so are the frame rows among the instructions (log 7, DESIGN CHOICE). -/
def Obligations.RequestWhileBusyRefused : Prop :=
  ∀ (i : Instr) (s : State), s.seq ≠ .idle → exec i s = .refused .requestWhileBusy

/-! ## What each operation does -/

/-- R211: `end` emits nothing and empties the handle; outside `Ready` it is rejected. -/
def Obligations.EndEmptiesHandle : Prop :=
  ∀ s : State, s.seq = .idle →
    (s.handle.phase = .ready →
      exec .endOp s = .next { s with handle := .uninitialized, bw := .atRest, response := some (.ok .unit) })
    ∧ (s.handle.phase ≠ .ready → exec .endOp s = .next s.rejected)

/-- R212: `set_erase_mode` emits nothing and writes `h.erase_mode` alone; outside `Ready` it is rejected. -/
def Obligations.SetEraseModeWritesModeAlone : Prop :=
  ∀ (s : State) (m : EraseMode), s.seq = .idle →
    (∀ r, s.handle = .ready r →
      exec (.setEraseMode m) s
        = .next { s with handle := .ready { r with eraseMode := m }, bw := .atRest, response := some (.ok .unit) })
    ∧ (s.handle.phase ≠ .ready → exec (.setEraseMode m) s = .next s.rejected)

/-- R50, R210: `setup` sends the status frame, then, for a supported density, the ID frame, and leaves every register
written. (Where cfg.DUMMY makes a frame too short for `in[k]`, the byte is the answer's own: log 34, DESIGN CHOICE.)
The zeros of the status and ID frames are cfg.DUMMY's count (R90, R94; log 36, DEDUCED). That the answers are given as
decided ones and one step runs through them is the model's form (logs 2 and 3, DESIGN CHOICE). -/
def Obligations.SetupReadsDensityAndId : Prop :=
  ∀ (s : State) (p q : Reply) (rest : List Answer) (i : Nat) (b : AddressBits), s.seq = .idle →
    s.handle = .uninitialized → p.good (statusLength s.cfg) → q.good (idLength s.cfg) →
    s.answers = p.answers ++ q.answers ++ rest → densityIndex s.cfg.densityRule p.status = some i →
    geometryFor s.cfg.geom i (psize p.status) = some b →
    exec .setup s
      = .next ({ s with handle := .ready { manufacturerId := byteAt q.xchg.bytes 1, deviceId0 := byteAt q.xchg.bytes 2,
                                           deviceId1 := byteAt q.xchg.bytes 3,
                                           extendedInfoLength := byteAt q.xchg.bytes 4, densityIndex := BitVec.ofNat 3 i,
                                           bits := b, eraseMode := .auto } }.returned rest
          (p.events (statusFrame s.cfg) ++ q.events (idFrame s.cfg)) .setup .unit)

/-- R210, R241: an unsupported density ends `setup` after the one status frame, in phase `Failed`. Where cfg.DUMMY
makes a status frame too short for `in[1]`, the byte is the answer's own (log 34, DESIGN CHOICE). The zeros of the
status and ID frames are cfg.DUMMY's count (R90, R94; log 36, DEDUCED). That the answers are given as decided ones and
one step runs through them is the model's form (logs 2 and 3, DESIGN CHOICE). -/
def Obligations.SetupFailsOnUnsupportedDensity : Prop :=
  ∀ (s : State) (p : Reply) (rest : List Answer), s.seq = .idle → s.handle = .uninitialized →
    p.good (statusLength s.cfg) → s.answers = p.answers ++ rest →
    densityIndex s.cfg.densityRule p.status = none →
    exec .setup s
      = .next ({ s with handle := .failed }.raised rest (p.events (statusFrame s.cfg)) .setupFailure)

/-- R150: `read_status` sends one status frame and returns its second answer byte. That the row STATUS_READ, presented
as a frame, does the same is the model's choice (log 7, DESIGN CHOICE; log 35, DEDUCED), not said by R100 or R150; so
is the byte where cfg.DUMMY makes the frame too short for `in[1]` (log 34, DESIGN CHOICE). The zeros of the status and
ID frames are cfg.DUMMY's count (R90, R94; log 36, DEDUCED). That the answers are given as decided ones and one step
runs through them is the model's form (logs 2 and 3, DESIGN CHOICE). -/
def Obligations.ReadStatusReturnsByte : Prop :=
  ∀ (s : State) (r : Regs) (p : Reply) (rest : List Answer), s.readyWith r → p.good (statusLength s.cfg) →
    s.answers = p.answers ++ rest →
    exec .readStatus s
      = .next (s.returned rest (p.events (statusFrame s.cfg)) .readStatus (.status (byteAt p.xchg.bytes 1)))
    ∧ exec .statusReadFrame s
      = .next (s.returned rest (p.events (statusFrame s.cfg)) .readStatus (.status (byteAt p.xchg.bytes 1)))

/-- R151: `is_ready` sends one status frame and returns bit 7 of its second answer byte (where cfg.DUMMY makes the
frame too short for `in[1]`: log 34, DESIGN CHOICE). The zeros of the status and ID frames are cfg.DUMMY's count (R90,
R94; log 36, DEDUCED). That the answers are given as decided ones and one step runs through them is the model's form
(logs 2 and 3, DESIGN CHOICE). -/
def Obligations.IsReadyReturnsBit7 : Prop :=
  ∀ (s : State) (r : Regs) (p : Reply) (rest : List Answer), s.readyWith r → p.good (statusLength s.cfg) →
    s.answers = p.answers ++ rest →
    exec .isReady s
      = .next (s.returned rest (p.events (statusFrame s.cfg)) .isReady (.bool ((byteAt p.xchg.bytes 1).getLsbD 7)))

/-- R156: `read_id` sends one ID frame and returns its four bytes; the handle is not written. That the row ID_READ,
presented as a frame, does the same is the model's choice (log 7, DESIGN CHOICE; log 35, DEDUCED), not said by R100 or
R156; so are the bytes where cfg.DUMMY makes the frame too short for `in[1..4]` (log 34, DESIGN CHOICE). The zeros of
the status and ID frames are cfg.DUMMY's count (R90, R94; log 36, DEDUCED). That the answers are given as decided ones
and one step runs through them is the model's form (logs 2 and 3, DESIGN CHOICE). -/
def Obligations.ReadIdReturnsFourBytes : Prop :=
  ∀ (s : State) (r : Regs) (p : Reply) (rest : List Answer), s.readyWith r → p.good (idLength s.cfg) →
    s.answers = p.answers ++ rest →
    let v := Value.id (byteAt p.xchg.bytes 1) (byteAt p.xchg.bytes 2) (byteAt p.xchg.bytes 3) (byteAt p.xchg.bytes 4)
    exec .readId s = .next (s.returned rest (p.events (idFrame s.cfg)) .readId v)
    ∧ exec .idReadFrame s = .next (s.returned rest (p.events (idFrame s.cfg)) .readId v)

/-- R153, R154: `wait_until_ready` sends one status frame per poll, up to and with the first that shows `RDY = 1`.
Where cfg.DUMMY makes a status frame too short for `in[1]`, the byte is the answer's own (log 34, DESIGN CHOICE). The
zeros of the status and ID frames are cfg.DUMMY's count (R90, R94; log 36, DEDUCED). That the answers are given as
decided ones and one step runs through them is the model's form (logs 2 and 3, DESIGN CHOICE). -/
def Obligations.WaitUntilReadyPolls : Prop :=
  ∀ (s : State) (r : Regs) (ps : List Reply) (rest : List Answer), s.readyWith r → waitEnds s.cfg ps →
    s.answers = pollAnswers ps ++ rest →
    exec .waitUntilReady s = .next (s.returned rest (pollEvents s.cfg ps) .waitUntilReady .unit)

/-- R153 (e), R248: under a budget `n`, `n` busy polls end every operation that waits first with `Timeout`, its own
frame not sent; `compare` has sent its frame and start before it waits, whose zeros are cfg.DUMMY's count (log 36,
DEDUCED). Where cfg.DUMMY makes a status frame too short for `in[1]`, the byte is the answer's own (log 34, DESIGN
CHOICE). That the answers are given as decided ones and one step runs through them is the model's form (logs 2 and 3,
DESIGN CHOICE). -/
def Obligations.WaitTimesOutUnderBudget : Prop :=
  ∀ (s : State) (r : Regs) (ps : List Reply) (rest : List Answer) (n : Nat), s.readyWith r →
    s.cfg.pollBudget = some n → 1 ≤ n → ps.length = n → allBusy s.cfg ps →
    (s.answers = pollAnswers ps ++ rest →
      let t := s.raised rest (pollEvents s.cfg ps) .timeout
      exec .waitUntilReady s = .next t
      ∧ (∀ (b : Byte) (offset : Operand), b.toNat < 2 → offset.toNat < 2 ^ r.bits.buffer →
          exec (.bufferRead b offset) s = .next t ∧ exec (.bufferWrite b offset) s = .next t)
      ∧ (∀ page : Operand, page.toNat < 2 ^ r.bits.page → exec (.pageErase page) s = .next t)
      ∧ (∀ block : Operand, block.toNat < 2 ^ (r.bits.page - 3) → exec (.blockErase block) s = .next t)
      ∧ (∀ sector, sectorInRange r.bits sector = true → exec (.sectorErase sector) s = .next t)
      ∧ exec .enableSectorProtection s = .next t ∧ exec .disableSectorProtection s = .next t
      ∧ exec .eraseProtectionRegister s = .next t)
    ∧ (∀ (b : Byte) (page : Operand) (p : Reply) (d e : Answer), b.toNat < 2 → page.toNat < 2 ^ r.bits.page →
      p.good (4 + s.cfg.dummy.compare) → d.ok = true → e.ok = true →
      s.answers = p.answers ++ [d, e] ++ pollAnswers ps ++ rest →
      exec (.comparePageToBuffer page b) s
        = .next (s.raised rest
            (p.events ((if b = 0 then s.cfg.opc.comparePageToBuffer1 else s.cfg.opc.comparePageToBuffer2)
                :: (bytes3 (BitVec.ofNat 24 (page.toNat <<< r.bits.buffer)) ++ List.replicate s.cfg.dummy.compare 0))
              ++ startEvents ++ pollEvents s.cfg ps) .timeout))

/-- R153 (d), R283: with no budget, however many polls find the chip busy, the wait is still in progress: no response,
the handle as it was, and the next step goes on polling. Where cfg.DUMMY makes a status frame too short for `in[1]`,
the byte is the answer's own (log 34, DESIGN CHOICE). The zeros of the status and ID frames are cfg.DUMMY's count
(R90, R94; log 36, DEDUCED). That the answers are given as decided ones and one step runs through them is the model's
form (logs 2 and 3, DESIGN CHOICE). What the sequencer holds is log 5, the empty response port log 33 (both DESIGN
CHOICE). -/
def Obligations.WaitMayNeverEnd : Prop :=
  ∀ (s : State) (r : Regs) (ps : List Reply), s.readyWith r → s.cfg.pollBudget = none → allBusy s.cfg ps →
    s.answers = pollAnswers ps →
    ∃ t, exec .waitUntilReady s = .next t ∧ t.seq = .run .waitUntilReady 0 (poll s.cfg) .unit ∧ t.response = none
      ∧ t.bw.state = .issue ∧ t.handle = s.handle ∧ t.trace = s.trace ++ pollEvents s.cfg ps ∧ t.answers = []

/-- R170: `page_read` sends opcode, page and offset, and the pads, and leaves the frame open. That the row PAGE_READ,
presented as a frame, runs as `page_read` is the model's choice (log 7, DESIGN CHOICE), not a rule. The pads are as
many as cfg.DUMMY says, which R170 writes out as the four of the default (R94; log 36, DEDUCED). That State notes the
frame as open is the model's reading (log 9, DEDUCED). That the answers are given as decided ones and one step runs
through them is the model's form (logs 2 and 3, DESIGN CHOICE). -/
def Obligations.PageReadSendsFrame : Prop :=
  ∀ (s : State) (r : Regs) (page offset : Operand) (p : Reply) (rest : List Answer), s.readyWith r →
    cfgWellFormed s.cfg = true → handleLegal s.cfg r →
    page.toNat < 2 ^ r.bits.page → offset.toNat < 2 ^ r.bits.buffer → p.good (4 + s.cfg.dummy.pageRead) →
    s.answers = p.answers ++ rest →
    let field : Field := BitVec.ofNat 24 ((page.toNat <<< r.bits.buffer) ||| offset.toNat)
    let t := s.returned rest
      (p.events (s.cfg.opc.pageRead :: (bytes3 field ++ List.replicate s.cfg.dummy.pageRead 0)))
      (.pageRead page offset) .unit
    exec (.pageRead page offset) s = .next t ∧ exec (.pageReadFrame field) s = .next t ∧ t.frameOpen = true

/-- R171: `array_read` sends opcode, page and offset, and the pads, and leaves the frame open. That the row
ARRAY_READ, presented as a frame, runs as `array_read` is the model's choice (log 7, DESIGN CHOICE), not a rule. That
State notes the frame as open is the model's reading (log 9, DEDUCED). That the answers are given as decided ones and
one step runs through them is the model's form (logs 2 and 3, DESIGN CHOICE). -/
def Obligations.ArrayReadSendsFrame : Prop :=
  ∀ (s : State) (r : Regs) (page offset : Operand) (p : Reply) (rest : List Answer), s.readyWith r →
    cfgWellFormed s.cfg = true → handleLegal s.cfg r →
    page.toNat < 2 ^ r.bits.page → offset.toNat < 2 ^ r.bits.buffer → p.good (4 + s.cfg.dummy.arrayRead) →
    s.answers = p.answers ++ rest →
    let field : Field := BitVec.ofNat 24 ((page.toNat <<< r.bits.buffer) ||| offset.toNat)
    let t := s.returned rest
      (p.events (s.cfg.opc.arrayRead :: (bytes3 field ++ List.replicate s.cfg.dummy.arrayRead 0)))
      (.arrayRead page offset) .unit
    exec (.arrayRead page offset) s = .next t ∧ exec (.arrayReadFrame field) s = .next t ∧ t.frameOpen = true

/-- R101, R172: `buffer_read` waits and then sends the opcode of the buffer, the offset and the pads. That the rows
BUFFER_1_READ and BUFFER_2_READ, presented as frames, run as `buffer_read` is the model's choice (log 7, DESIGN
CHOICE), not a rule. Where cfg.DUMMY makes a status frame too short for `in[1]`, the byte is the answer's own (log 34,
DESIGN CHOICE). The zeros of the status and ID frames are cfg.DUMMY's count (R90, R94; log 36, DEDUCED). That State
notes the frame as open is the model's reading (log 9, DEDUCED). That the answers are given as decided ones and one
step runs through them is the model's form (logs 2 and 3, DESIGN CHOICE). -/
def Obligations.BufferReadWaitsThenSends : Prop :=
  ∀ (s : State) (r : Regs) (b : Byte) (offset : Operand) (ps : List Reply) (p : Reply) (rest : List Answer),
    s.readyWith r → b.toNat < 2 → offset.toNat < 2 ^ r.bits.buffer → waitEnds s.cfg ps →
    p.good (4 + s.cfg.dummy.bufferRead) → s.answers = pollAnswers ps ++ p.answers ++ rest →
    let field : Field := BitVec.ofNat 24 offset.toNat
    let opcode := if b = 0 then s.cfg.opc.buffer1Read else s.cfg.opc.buffer2Read
    let t := s.returned rest
      (pollEvents s.cfg ps ++ p.events (opcode :: (bytes3 field ++ List.replicate s.cfg.dummy.bufferRead 0)))
      (.bufferRead b offset) .unit
    exec (.bufferRead b offset) s = .next t
    ∧ (b = 0 → exec (.buffer1ReadFrame field) s = .next t) ∧ (b = 1 → exec (.buffer2ReadFrame field) s = .next t)
    ∧ t.frameOpen = true

/-- R101, R173: `buffer_write` waits and then sends the opcode of the buffer and the offset. That the rows
BUFFER_1_WRITE and BUFFER_2_WRITE, presented as frames, run as `buffer_write` is the model's choice (log 7, DESIGN
CHOICE), not a rule. cfg.DUMMY's zeros, 0 of them by default, follow (R90, R94; log 36, DEDUCED). Where cfg.DUMMY
makes a status frame too short for `in[1]`, the byte is the answer's own (log 34, DESIGN CHOICE). That State notes the
frame as open is the model's reading (log 9, DEDUCED). That the answers are given as decided ones and one step runs
through them is the model's form (logs 2 and 3, DESIGN CHOICE). -/
def Obligations.BufferWriteWaitsThenSends : Prop :=
  ∀ (s : State) (r : Regs) (b : Byte) (offset : Operand) (ps : List Reply) (p : Reply) (rest : List Answer),
    s.readyWith r → b.toNat < 2 → offset.toNat < 2 ^ r.bits.buffer → waitEnds s.cfg ps →
    p.good (4 + s.cfg.dummy.bufferWrite) → s.answers = pollAnswers ps ++ p.answers ++ rest →
    let field : Field := BitVec.ofNat 24 offset.toNat
    let opcode := if b = 0 then s.cfg.opc.buffer1Write else s.cfg.opc.buffer2Write
    let t := s.returned rest
      (pollEvents s.cfg ps ++ p.events (opcode :: (bytes3 field ++ List.replicate s.cfg.dummy.bufferWrite 0)))
      (.bufferWrite b offset) .unit
    exec (.bufferWrite b offset) s = .next t
    ∧ (b = 0 → exec (.buffer1WriteFrame field) s = .next t) ∧ (b = 1 → exec (.buffer2WriteFrame field) s = .next t)
    ∧ t.frameOpen = true

/-- R102, R190, R195: `buffer_to_page` sends the opcode of the buffer and the erase mode and the page, with no wait,
and starts the transfer. That the four rows BUFFER_n_TO_PAGE, presented as frames, run as `buffer_to_page` is the
model's choice (log 7, DESIGN CHOICE), not a rule. cfg.DUMMY's zeros, 0 of them by default, follow (R90, R94; log 36,
DEDUCED). That the answers are given as decided ones and one step runs through them is the model's form (logs 2 and 3,
DESIGN CHOICE). -/
def Obligations.BufferToPageStartsTransfer : Prop :=
  ∀ (s : State) (r : Regs) (b : Byte) (page : Operand) (p : Reply) (d e : Answer) (rest : List Answer), s.readyWith r →
    cfgWellFormed s.cfg = true → handleLegal s.cfg r → b.toNat < 2 → page.toNat < 2 ^ r.bits.page →
    p.good (4 + s.cfg.dummy.bufferToPage) → d.ok = true → e.ok = true → s.answers = p.answers ++ [d, e] ++ rest →
    let field : Field := BitVec.ofNat 24 (page.toNat <<< r.bits.buffer)
    let o := s.cfg.opc
    let t := fun opcode => s.returned rest
      (p.events (opcode :: (bytes3 field ++ List.replicate s.cfg.dummy.bufferToPage 0)) ++ startEvents)
      (.bufferToPage b page) .unit
    (b = 0 → r.eraseMode = .auto → exec (.bufferToPage b page) s = .next (t o.buffer1ToPageWithErase)
      ∧ exec (.buffer1ToPageWithEraseFrame field) s = .next (t o.buffer1ToPageWithErase))
    ∧ (b = 1 → r.eraseMode = .auto → exec (.bufferToPage b page) s = .next (t o.buffer2ToPageWithErase)
      ∧ exec (.buffer2ToPageWithEraseFrame field) s = .next (t o.buffer2ToPageWithErase))
    ∧ (b = 0 → r.eraseMode = .manual → exec (.bufferToPage b page) s = .next (t o.buffer1ToPageWithoutErase)
      ∧ exec (.buffer1ToPageWithoutEraseFrame field) s = .next (t o.buffer1ToPageWithoutErase))
    ∧ (b = 1 → r.eraseMode = .manual → exec (.bufferToPage b page) s = .next (t o.buffer2ToPageWithoutErase)
      ∧ exec (.buffer2ToPageWithoutEraseFrame field) s = .next (t o.buffer2ToPageWithoutErase))

/-- R191, R195: `page_to_buffer` sends the opcode of the buffer and the page, with no wait, and starts the transfer.
That the rows PAGE_TO_BUFFER_1 and PAGE_TO_BUFFER_2, presented as frames, run as `page_to_buffer` is the model's
choice (log 7, DESIGN CHOICE), not a rule. cfg.DUMMY's zeros, 0 of them by default, follow (R90, R94; log 36,
DEDUCED). That the answers are given as decided ones and one step runs through them is the model's form (logs 2 and 3,
DESIGN CHOICE). -/
def Obligations.PageToBufferStartsTransfer : Prop :=
  ∀ (s : State) (r : Regs) (b : Byte) (page : Operand) (p : Reply) (d e : Answer) (rest : List Answer), s.readyWith r →
    cfgWellFormed s.cfg = true → handleLegal s.cfg r → b.toNat < 2 → page.toNat < 2 ^ r.bits.page →
    p.good (4 + s.cfg.dummy.pageToBuffer) → d.ok = true → e.ok = true → s.answers = p.answers ++ [d, e] ++ rest →
    let field : Field := BitVec.ofNat 24 (page.toNat <<< r.bits.buffer)
    let opcode := if b = 0 then s.cfg.opc.pageToBuffer1 else s.cfg.opc.pageToBuffer2
    let t := s.returned rest
      (p.events (opcode :: (bytes3 field ++ List.replicate s.cfg.dummy.pageToBuffer 0)) ++ startEvents)
      (.pageToBuffer page b) .unit
    exec (.pageToBuffer page b) s = .next t
    ∧ (b = 0 → exec (.pageToBuffer1Frame field) s = .next t) ∧ (b = 1 → exec (.pageToBuffer2Frame field) s = .next t)

/-- R192, R195: `page_erase` waits, sends the page, and starts the erase. That the row PAGE_ERASE, presented as a
frame, runs as `page_erase` is the model's choice (log 7, DESIGN CHOICE), not a rule. cfg.DUMMY's zeros, 0 of them by
default, follow (R90, R94; log 36, DEDUCED). Where cfg.DUMMY makes a status frame too short for `in[1]`, the byte is
the answer's own (log 34, DESIGN CHOICE). That the answers are given as decided ones and one step runs through them is
the model's form (logs 2 and 3, DESIGN CHOICE). -/
def Obligations.PageEraseWaitsThenStarts : Prop :=
  ∀ (s : State) (r : Regs) (page : Operand) (ps : List Reply) (p : Reply) (d e : Answer) (rest : List Answer),
    s.readyWith r → cfgWellFormed s.cfg = true → handleLegal s.cfg r → page.toNat < 2 ^ r.bits.page →
    waitEnds s.cfg ps → p.good (4 + s.cfg.dummy.pageErase) → d.ok = true → e.ok = true →
    s.answers = pollAnswers ps ++ p.answers ++ [d, e] ++ rest →
    let field : Field := BitVec.ofNat 24 (page.toNat <<< r.bits.buffer)
    let t := s.returned rest
      (pollEvents s.cfg ps
        ++ p.events (s.cfg.opc.pageErase :: (bytes3 field ++ List.replicate s.cfg.dummy.pageErase 0)) ++ startEvents)
      (.pageErase page) .unit
    exec (.pageErase page) s = .next t ∧ exec (.pageEraseFrame field) s = .next t

/-- R135, R193, R195: `block_erase` waits, sends the block above `bb + 3` zero bits, and starts the erase. That the
row BLOCK_ERASE, presented as a frame, runs as `block_erase` is the model's choice (log 7, DESIGN CHOICE), not a rule.
cfg.DUMMY's zeros, 0 of them by default, follow (R90, R94; log 36, DEDUCED). Where cfg.DUMMY makes a status frame too
short for `in[1]`, the byte is the answer's own (log 34, DESIGN CHOICE). That the answers are given as decided ones
and one step runs through them is the model's form (logs 2 and 3, DESIGN CHOICE). -/
def Obligations.BlockEraseWaitsThenStarts : Prop :=
  ∀ (s : State) (r : Regs) (block : Operand) (ps : List Reply) (p : Reply) (d e : Answer) (rest : List Answer),
    s.readyWith r → cfgWellFormed s.cfg = true → handleLegal s.cfg r → block.toNat < 2 ^ (r.bits.page - 3) →
    waitEnds s.cfg ps → p.good (4 + s.cfg.dummy.blockErase) → d.ok = true → e.ok = true →
    s.answers = pollAnswers ps ++ p.answers ++ [d, e] ++ rest →
    let field : Field := BitVec.ofNat 24 (block.toNat <<< (r.bits.buffer + 3))
    let t := s.returned rest
      (pollEvents s.cfg ps
        ++ p.events (s.cfg.opc.blockErase :: (bytes3 field ++ List.replicate s.cfg.dummy.blockErase 0)) ++ startEvents)
      (.blockErase block) .unit
    exec (.blockErase block) s = .next t ∧ exec (.blockEraseFrame field) s = .next t

/-- R136, R194, R195: `sector_erase` waits, sends the address of the region's first page, and starts the erase: for
0A, for 0B and for a regular sector. That the row SECTOR_ERASE, presented as a frame, runs as `sector_erase` is the
model's choice (log 7, DESIGN CHOICE), not a rule. cfg.DUMMY's zeros, 0 of them by default, follow (R90, R94; log 36,
DEDUCED). Where cfg.DUMMY makes a status frame too short for `in[1]`, the byte is the answer's own (log 34, DESIGN
CHOICE). That the answers are given as decided ones and one step runs through them is the model's form (logs 2 and 3,
DESIGN CHOICE). -/
def Obligations.SectorEraseWaitsThenStarts : Prop :=
  ∀ (s : State) (r : Regs) (ps : List Reply) (p : Reply) (d e : Answer) (rest : List Answer), s.readyWith r →
    cfgWellFormed s.cfg = true → handleLegal s.cfg r → waitEnds s.cfg ps →
    p.good (4 + s.cfg.dummy.sectorErase) → d.ok = true → e.ok = true →
    s.answers = pollAnswers ps ++ p.answers ++ [d, e] ++ rest →
    let t := fun sector (field : Field) => s.returned rest
      (pollEvents s.cfg ps
        ++ p.events (s.cfg.opc.sectorErase :: (bytes3 field ++ List.replicate s.cfg.dummy.sectorErase 0)) ++ startEvents)
      (.sectorErase sector) .unit
    (exec (.sectorErase .s0A) s = .next (t .s0A 0) ∧ exec (.sectorEraseFrame 0) s = .next (t .s0A 0))
    ∧ (let field : Field := BitVec.ofNat 24 (1 <<< (r.bits.buffer + 3))
       exec (.sectorErase .s0B) s = .next (t .s0B field) ∧ exec (.sectorEraseFrame field) s = .next (t .s0B field))
    ∧ (∀ n : Byte, 1 ≤ n.toNat → n.toNat < 2 ^ r.bits.sector →
       let field : Field := BitVec.ofNat 24 (n.toNat <<< (r.bits.buffer + r.bits.page - r.bits.sector))
       exec (.sectorErase (.sn n)) s = .next (t (.sn n) field)
       ∧ exec (.sectorEraseFrame field) s = .next (t (.sn n) field))

/-- R197: `compare_page_to_buffer` sends the page, starts, waits, and reads the status once more: true exactly when
bit 6 of that last byte is clear. That the rows COMPARE_PAGE_TO_BUFFER_1 and _2, presented as frames, run as
`compare_page_to_buffer` is the model's choice (log 7, DESIGN CHOICE), not a rule. cfg.DUMMY's zeros, 0 of them by
default, follow (R90, R94; log 36, DEDUCED). Where cfg.DUMMY makes a status frame too short for `in[1]`, the byte is
the answer's own (log 34, DESIGN CHOICE). That the answers are given as decided ones and one step runs through them is
the model's form (logs 2 and 3, DESIGN CHOICE). -/
def Obligations.CompareReturnsLastBit6Clear : Prop :=
  ∀ (s : State) (r : Regs) (b : Byte) (page : Operand) (p : Reply) (d e : Answer) (ps : List Reply) (q : Reply)
    (rest : List Answer), s.readyWith r → cfgWellFormed s.cfg = true → handleLegal s.cfg r → b.toNat < 2 →
    page.toNat < 2 ^ r.bits.page → p.good (4 + s.cfg.dummy.compare) → d.ok = true → e.ok = true →
    waitEnds s.cfg ps → q.good (statusLength s.cfg) →
    s.answers = p.answers ++ [d, e] ++ pollAnswers ps ++ q.answers ++ rest →
    let field : Field := BitVec.ofNat 24 (page.toNat <<< r.bits.buffer)
    let opcode := if b = 0 then s.cfg.opc.comparePageToBuffer1 else s.cfg.opc.comparePageToBuffer2
    let t := s.returned rest
      (p.events (opcode :: (bytes3 field ++ List.replicate s.cfg.dummy.compare 0)) ++ startEvents
        ++ pollEvents s.cfg ps ++ q.events (statusFrame s.cfg))
      (.comparePageToBuffer page b) (.bool (!(byteAt q.xchg.bytes 1).getLsbD 6))
    exec (.comparePageToBuffer page b) s = .next t
    ∧ (b = 0 → exec (.comparePageToBuffer1Frame field) s = .next t)
    ∧ (b = 1 → exec (.comparePageToBuffer2Frame field) s = .next t)

/-- R213: `deep_power_down` sends its opcode and deselects. That the row DEEP_POWER_DOWN, presented as a frame, runs
as `deep_power_down` is the model's choice (log 7, DESIGN CHOICE), not a rule. cfg.DUMMY's zeros, 0 of them by
default, follow (R90, R94; log 36, DEDUCED). That the answers are given as decided ones and one step runs through them
is the model's form (logs 2 and 3, DESIGN CHOICE). -/
def Obligations.DeepPowerDownDeselects : Prop :=
  ∀ (s : State) (r : Regs) (p : Reply) (d : Answer) (rest : List Answer), s.readyWith r →
    p.good (1 + s.cfg.dummy.deepPowerDown) → d.ok = true → s.answers = p.answers ++ [d] ++ rest →
    let t := s.returned rest
      (p.events (s.cfg.opc.deepPowerDown :: List.replicate s.cfg.dummy.deepPowerDown 0) ++ [.desel true])
      .deepPowerDown .unit
    exec .deepPowerDown s = .next t ∧ exec .deepPowerDownFrame s = .next t ∧ t.lines.selected = some false

/-- R214: `resume_from_deep_power_down` sends its opcode, deselects, and sleeps the recovery window before the
response. That the row RESUME_FROM_DEEP_POWER_DOWN, presented as a frame, runs as its operation is the model's choice
(log 7, DESIGN CHOICE), not a rule. cfg.DUMMY's zeros, 0 of them by default, follow (R90, R94; log 36, DEDUCED). That
the answers are given as decided ones and one step runs through them is the model's form (logs 2 and 3, DESIGN
CHOICE). -/
def Obligations.ResumeSleepsBeforeResponse : Prop :=
  ∀ (s : State) (r : Regs) (p : Reply) (d : Answer) (rest : List Answer), s.readyWith r →
    p.good (1 + s.cfg.dummy.resume) → d.ok = true → s.answers = p.answers ++ [d] ++ rest →
    let t := s.returned rest
      (p.events (s.cfg.opc.resumeFromDeepPowerDown :: List.replicate s.cfg.dummy.resume 0)
        ++ [.desel true, .sleep s.cfg.resumeDelayUs])
      .resumeFromDeepPowerDown .unit
    exec .resumeFromDeepPowerDown s = .next t ∧ exec .resumeFromDeepPowerDownFrame s = .next t

/-- R215: `hard_reset` with a pin emits the six events in the rule's order and returns true; with none it emits one
and returns false; the handle is unchanged either way. That the answers are given as decided ones and one step runs
through them is the model's form (logs 2 and 3, DESIGN CHOICE). -/
def Obligations.HardResetSequence : Prop :=
  ∀ (s : State) (r : Regs) (a : Answer) (rest : List Answer), s.readyWith r →
    (a.pin = false → s.answers = a :: rest →
      exec .hardReset s = .next (s.returned rest [.rst true false] .hardReset (.bool false)))
    ∧ (∀ d b : Answer, a.pin = true → d.ok = true → s.answers = a :: d :: b :: rest →
      exec .hardReset s
        = .next (s.returned rest
            [.rst true true, .sleep s.cfg.resetLowUs, .desel true, .sleep s.cfg.resetSettleUs, .rst false b.pin,
             .sleep s.cfg.resetRecoveryUs] .hardReset (.bool true)))

/-- R219 to R222: the three protection operations wait, drive the write-protect line active, send their four bytes,
deselect, and release the line, whatever the pin answers. That the three protection rows, presented as frames, run as
their operations is the model's choice (log 7, DESIGN CHOICE), not a rule. cfg.DUMMY's zeros, 0 of them by default,
follow (R90, R94; log 36, DEDUCED). Where cfg.DUMMY makes a status frame too short for `in[1]`, the byte is the
answer's own (log 34, DESIGN CHOICE). That the answers are given as decided ones and one step runs through them is the
model's form (logs 2 and 3, DESIGN CHOICE). -/
def Obligations.ProtectionSequence : Prop :=
  ∀ (s : State) (r : Regs) (ps : List Reply) (w x : Answer) (p : Reply) (d : Answer) (rest : List Answer),
    s.readyWith r → waitEnds s.cfg ps → p.good (4 + s.cfg.dummy.protection) → d.ok = true →
    s.answers = pollAnswers ps ++ [w] ++ p.answers ++ [d, x] ++ rest →
    let t := fun (m : Magic) op => s.returned rest
      (pollEvents s.cfg ps ++ [.wp true w.pin]
        ++ p.events ([m.byte0, m.byte1, m.byte2, m.byte3] ++ List.replicate s.cfg.dummy.protection 0)
        ++ [.desel true, .wp false x.pin]) op .unit
    exec .enableSectorProtection s = .next (t s.cfg.opc.enableSectorProtection .enableSectorProtection)
    ∧ exec .disableSectorProtection s = .next (t s.cfg.opc.disableSectorProtection .disableSectorProtection)
    ∧ exec .eraseProtectionRegister s = .next (t s.cfg.opc.eraseProtectionRegister .eraseProtectionRegister)
    ∧ exec .enableSectorProtectionFrame s = .next (t s.cfg.opc.enableSectorProtection .enableSectorProtection)
    ∧ exec .disableSectorProtectionFrame s = .next (t s.cfg.opc.disableSectorProtection .disableSectorProtection)
    ∧ exec .eraseProtectionRegisterFrame s = .next (t s.cfg.opc.eraseProtectionRegister .eraseProtectionRegister)

/-! ## The whole machine -/

/-- The invariant holds after reset. That `Config.default` is well formed rests on its G1 to G4 values (logs 17, 18,
19 and 20, PRESUMED), and the idle fields of `State.reset` that the spec gives no value on log 14 (DESIGN CHOICE).
That the invariant asks for a poll count of 0 without a budget is log 15 (DEDUCED). -/
def Obligations.ResetMeetsInvariant : Prop := State.reset.Inv

/-- R32, R33, R36, R37, R39: every step keeps the invariant: the density index is a row and the widths are that row's;
an idle sequencer has the wait registers at rest; an operation in progress is one that emits events, in its phase;
under a budget the poll count stays within it. The model's own clauses: a poll count of 0 without a budget, where R37
calls the register absent and R153 increments it unconditionally (log 15, DEDUCED); no response while an operation is
in progress (log 33, DESIGN CHOICE); the items the sequencer still holds (log 5, DESIGN CHOICE); and `cfg` in State
(log 1, DESIGN CHOICE), checked at every step (log 10, DEDUCED). -/
def Obligations.StepKeepsInvariant : Prop :=
  ∀ s t : State, s.Inv → step s = .next t → t.Inv

/-- R15, R44: nothing rewrites the trace: a step appends events to it, and the three lines are the fold of those
events. The reset input is the model's form (log 23, DESIGN CHOICE), and so is `none` for a level not known (log 12,
DESIGN CHOICE). -/
def Obligations.LinesFollowTrace : Prop :=
  ∀ s t : State, s.resetPin = false → step s = .next t →
    ∃ es, t.trace = s.trace ++ es ∧ t.lines = es.foldl Lines.after s.lines

/-- R51, the complete write table: no operation but `setup`, `end` and `set_erase_mode` writes a handle register; what
those three write, by their result; what hardware reset writes; and the same while an operation is carried on from one
step to the next. A frame row counts as the operation that sends it: the model's choice (log 7, DESIGN CHOICE). The
reset input is the model's form (log 23, DESIGN CHOICE), and so is an operation that one step leaves in progress for
the next to carry on, with its items in the sequencer (logs 3 and 5, DESIGN CHOICE). -/
def Obligations.OnlyThreeOperationsWriteHandle : Prop :=
  (∀ (i : Instr) (s t : State), exec i s = .next t → writesHandle i = false → t.handle = s.handle)
  ∧ (∀ (m : EraseMode) (s t : State), exec (.setEraseMode m) s = .next t →
      (t.response = some (.ok .unit) ∧ ∃ r, s.handle = .ready r ∧ t.handle = .ready { r with eraseMode := m })
      ∨ (t.response = some (.err .preconditionViolation) ∧ t.handle = s.handle))
  ∧ (∀ s t : State, exec .endOp s = .next t →
      (t.response = some (.ok .unit) ∧ t.handle = .uninitialized)
      ∨ (t.response = some (.err .preconditionViolation) ∧ t.handle = s.handle))
  ∧ (∀ s t : State, s.resetPin = true → step s = .next t → t.handle = .uninitialized)
  ∧ (∀ s t : State, exec .setup s = .next t →
      (t.response = some (.ok .unit) ∧ ∃ r, t.handle = .ready r ∧ r.eraseMode = .auto)
      ∨ (t.response = some (.err .setupFailure) ∧ t.handle = .failed)
      ∨ (t.response ≠ some (.ok .unit) ∧ t.response ≠ some (.err .setupFailure) ∧ t.handle = s.handle))
  ∧ (∀ (s : State) (op : Instr) (k : Nat) (todo : List Micro) (v : Value), s.Inv → s.seq = .run op k todo v →
      op ≠ .setup → s.resume.handle = s.handle)

/-- R34: the complete table of phase transitions, for a request, for an operation carried on, and for hardware reset.
A frame row counts as the operation that sends it: the model's choice (log 7, DESIGN CHOICE). The reset input is the
model's form (log 23, DESIGN CHOICE), and so is an operation that one step leaves in progress for the next to carry
on, with its items in the sequencer (logs 3 and 5, DESIGN CHOICE). -/
def Obligations.PhaseTransitionTable : Prop :=
  (∀ (i : Instr) (s t : State), exec i s = .next t → t.handle.phase = phaseAfter i s.handle.phase t.response)
  ∧ (∀ (s : State) (op : Instr) (k : Nat) (todo : List Micro) (v : Value), s.Inv → s.seq = .run op k todo v →
      s.resume.handle.phase = phaseAfter op s.handle.phase s.resume.response)
  ∧ (∀ s t : State, s.resetPin = true → step s = .next t → t.handle.phase = .uninitialized)

/-- R243, R244, R245: an operation that answers `PreconditionViolation` has emitted nothing and changed nothing. That
the frame rows do likewise is the model's choice (log 7, DESIGN CHOICE). -/
def Obligations.PreconditionViolationEmitsNothing : Prop :=
  ∀ (i : Instr) (s t : State), exec i s = .next t → t.response = some (.err .preconditionViolation) → t = s.rejected

/-- R91: every `Xchg` DFCE emits comes right after `Desel; Sel`, both answered `ok`, in every operation and whatever
the transport answers. A frame row counts as the operation that sends it: the model's choice (log 7, DESIGN CHOICE).
-/
def Obligations.EveryXchgFollowsDecoderReset : Prop :=
  ∀ (i : Instr) (s t : State), exec i s = .next t → ∃ es, t.trace = s.trace ++ es ∧ framed none none es = true

/-- R262: which operation can return which error; `Timeout` only under a budget. A frame row counts as the operation
that sends it: the model's choice (log 7, DESIGN CHOICE). -/
def Obligations.ErrorsOfEachOperation : Prop :=
  ∀ (i : Instr) (s t : State) (e : ErrorKind), exec i s = .next t → t.response = some (.err e) →
    e ∈ (kindOf i).errors s.cfg.pollBudget

/-- R242, R246: an operation answers `TransportFailure` exactly when an event of its was answered `fail`, and that
event is the last one. A frame row counts as the operation that sends it: the model's choice (log 7, DESIGN CHOICE).
-/
def Obligations.TransportFailureIsLastEvent : Prop :=
  ∀ (i : Instr) (s t : State), exec i s = .next t → ∃ es, t.trace = s.trace ++ es
    ∧ (t.response = some (.err .transportFailure) ↔ es.any Event.failed = true)
    ∧ es.dropLast.any Event.failed = false

/-- R292: the number of events of each operation that returned, with `p` polls; `setup` that failed on the density has
three. A frame row counts as the operation that sends it: the model's choice (log 7, DESIGN CHOICE). -/
def Obligations.EventCounts : Prop :=
  (∀ (i : Instr) (s t : State) (v : Value), exec i s = .next t → t.response = some (.ok v) →
    ∃ p, 1 ≤ p ∧ t.trace.length = s.trace.length + (kindOf i).eventCount p v)
  ∧ (∀ (i : Instr) (s t : State), exec i s = .next t → t.response = some (.err .setupFailure) →
    t.trace.length = s.trace.length + 3)

/-- R15, R46, R72: it makes no difference whether the transport's answers are decided at once or bit by bit: the
operation, carried on by later steps, ends in the same state (the batches are log 3, DESIGN CHOICE). A frame row
counts as the operation that sends it: the model's choice (log 7, DESIGN CHOICE). The list of decided answers and the
reset input are the model's forms (logs 2 and 23, DESIGN CHOICE). -/
def Obligations.AnswersInBatchesMakeNoDifference : Prop :=
  ∀ (i : Instr) (s t : State) (ys : List Answer), cfgWellFormed s.cfg = true → s.resetPin = false → ys ≠ [] →
    exec i s = .next t →
    (t.seq = .idle → exec i { s with answers := s.answers ++ ys } = .next { t with answers := t.answers ++ ys })
    ∧ (t.seq ≠ .idle → exec i { s with answers := s.answers ++ ys } = step { t with answers := ys })

/-- R35, R102: the erase mode affects nothing but the opcode of `buffer_to_page`: every other operation does and
answers the same in either mode. A frame row counts as the operation that sends it: the model's choice (log 7, DESIGN
CHOICE). -/
def Obligations.EraseModeOnlySelectsOpcode : Prop :=
  ∀ (i : Instr) (s t : State) (m : EraseMode), kindOf i ≠ .bufferToPage → exec i s = .next t →
    ∃ t', exec i (s.withMode m) = .next t' ∧ t'.trace = t.trace ∧ t'.response = t.response ∧ t'.seq = t.seq
      ∧ t'.answers = t.answers ∧ t'.lines = t.lines ∧ t'.handle.phase = t.handle.phase
end

