-- ==== Sys2Proof/Laws/State.lean ====
section
/-! SUPPORT. One lemma per field per update of State, each true by rfl, so that no later proof unfolds a record
update. -/

namespace Sys2Proof.Machine

section setHandle
variable (s : State) (h : Handle)
@[simp] theorem State.setHandle_cfg : (s.setHandle h).cfg = s.cfg := rfl
@[simp] theorem State.setHandle_handle : (s.setHandle h).handle = h := rfl
@[simp] theorem State.setHandle_seq : (s.setHandle h).seq = s.seq := rfl
@[simp] theorem State.setHandle_bw : (s.setHandle h).bw = s.bw := rfl
@[simp] theorem State.setHandle_response : (s.setHandle h).response = s.response := rfl
@[simp] theorem State.setHandle_lines : (s.setHandle h).lines = s.lines := rfl
@[simp] theorem State.setHandle_frameOpen : (s.setHandle h).frameOpen = s.frameOpen := rfl
@[simp] theorem State.setHandle_trace : (s.setHandle h).trace = s.trace := rfl
@[simp] theorem State.setHandle_answers : (s.setHandle h).answers = s.answers := rfl
@[simp] theorem State.setHandle_asked : (s.setHandle h).asked = s.asked := rfl
@[simp] theorem State.setHandle_host : (s.setHandle h).host = s.host := rfl
@[simp] theorem State.setHandle_resetPin : (s.setHandle h).resetPin = s.resetPin := rfl
end setHandle

section setSeq
variable (s : State) (q : Seq)
@[simp] theorem State.setSeq_cfg : (s.setSeq q).cfg = s.cfg := rfl
@[simp] theorem State.setSeq_handle : (s.setSeq q).handle = s.handle := rfl
@[simp] theorem State.setSeq_seq : (s.setSeq q).seq = q := rfl
@[simp] theorem State.setSeq_bw : (s.setSeq q).bw = s.bw := rfl
@[simp] theorem State.setSeq_response : (s.setSeq q).response = s.response := rfl
@[simp] theorem State.setSeq_lines : (s.setSeq q).lines = s.lines := rfl
@[simp] theorem State.setSeq_frameOpen : (s.setSeq q).frameOpen = s.frameOpen := rfl
@[simp] theorem State.setSeq_trace : (s.setSeq q).trace = s.trace := rfl
@[simp] theorem State.setSeq_answers : (s.setSeq q).answers = s.answers := rfl
@[simp] theorem State.setSeq_asked : (s.setSeq q).asked = s.asked := rfl
@[simp] theorem State.setSeq_host : (s.setSeq q).host = s.host := rfl
@[simp] theorem State.setSeq_resetPin : (s.setSeq q).resetPin = s.resetPin := rfl
end setSeq

section setBw
variable (s : State) (b : Bw)
@[simp] theorem State.setBw_cfg : (s.setBw b).cfg = s.cfg := rfl
@[simp] theorem State.setBw_handle : (s.setBw b).handle = s.handle := rfl
@[simp] theorem State.setBw_seq : (s.setBw b).seq = s.seq := rfl
@[simp] theorem State.setBw_bw : (s.setBw b).bw = b := rfl
@[simp] theorem State.setBw_response : (s.setBw b).response = s.response := rfl
@[simp] theorem State.setBw_lines : (s.setBw b).lines = s.lines := rfl
@[simp] theorem State.setBw_frameOpen : (s.setBw b).frameOpen = s.frameOpen := rfl
@[simp] theorem State.setBw_trace : (s.setBw b).trace = s.trace := rfl
@[simp] theorem State.setBw_answers : (s.setBw b).answers = s.answers := rfl
@[simp] theorem State.setBw_asked : (s.setBw b).asked = s.asked := rfl
@[simp] theorem State.setBw_host : (s.setBw b).host = s.host := rfl
@[simp] theorem State.setBw_resetPin : (s.setBw b).resetPin = s.resetPin := rfl
end setBw

section setResponse
variable (s : State) (r : Option Response)
@[simp] theorem State.setResponse_cfg : (s.setResponse r).cfg = s.cfg := rfl
@[simp] theorem State.setResponse_handle : (s.setResponse r).handle = s.handle := rfl
@[simp] theorem State.setResponse_seq : (s.setResponse r).seq = s.seq := rfl
@[simp] theorem State.setResponse_bw : (s.setResponse r).bw = s.bw := rfl
@[simp] theorem State.setResponse_response : (s.setResponse r).response = r := rfl
@[simp] theorem State.setResponse_lines : (s.setResponse r).lines = s.lines := rfl
@[simp] theorem State.setResponse_frameOpen : (s.setResponse r).frameOpen = s.frameOpen := rfl
@[simp] theorem State.setResponse_trace : (s.setResponse r).trace = s.trace := rfl
@[simp] theorem State.setResponse_answers : (s.setResponse r).answers = s.answers := rfl
@[simp] theorem State.setResponse_asked : (s.setResponse r).asked = s.asked := rfl
@[simp] theorem State.setResponse_host : (s.setResponse r).host = s.host := rfl
@[simp] theorem State.setResponse_resetPin : (s.setResponse r).resetPin = s.resetPin := rfl
end setResponse

section setFrameOpen
variable (s : State) (o : Bool)
@[simp] theorem State.setFrameOpen_cfg : (s.setFrameOpen o).cfg = s.cfg := rfl
@[simp] theorem State.setFrameOpen_handle : (s.setFrameOpen o).handle = s.handle := rfl
@[simp] theorem State.setFrameOpen_seq : (s.setFrameOpen o).seq = s.seq := rfl
@[simp] theorem State.setFrameOpen_bw : (s.setFrameOpen o).bw = s.bw := rfl
@[simp] theorem State.setFrameOpen_response : (s.setFrameOpen o).response = s.response := rfl
@[simp] theorem State.setFrameOpen_lines : (s.setFrameOpen o).lines = s.lines := rfl
@[simp] theorem State.setFrameOpen_frameOpen : (s.setFrameOpen o).frameOpen = o := rfl
@[simp] theorem State.setFrameOpen_trace : (s.setFrameOpen o).trace = s.trace := rfl
@[simp] theorem State.setFrameOpen_answers : (s.setFrameOpen o).answers = s.answers := rfl
@[simp] theorem State.setFrameOpen_asked : (s.setFrameOpen o).asked = s.asked := rfl
@[simp] theorem State.setFrameOpen_host : (s.setFrameOpen o).host = s.host := rfl
@[simp] theorem State.setFrameOpen_resetPin : (s.setFrameOpen o).resetPin = s.resetPin := rfl
end setFrameOpen

section setAnswers
variable (s : State) (as : List Answer)
@[simp] theorem State.setAnswers_cfg : (s.setAnswers as).cfg = s.cfg := rfl
@[simp] theorem State.setAnswers_handle : (s.setAnswers as).handle = s.handle := rfl
@[simp] theorem State.setAnswers_seq : (s.setAnswers as).seq = s.seq := rfl
@[simp] theorem State.setAnswers_bw : (s.setAnswers as).bw = s.bw := rfl
@[simp] theorem State.setAnswers_response : (s.setAnswers as).response = s.response := rfl
@[simp] theorem State.setAnswers_lines : (s.setAnswers as).lines = s.lines := rfl
@[simp] theorem State.setAnswers_frameOpen : (s.setAnswers as).frameOpen = s.frameOpen := rfl
@[simp] theorem State.setAnswers_trace : (s.setAnswers as).trace = s.trace := rfl
@[simp] theorem State.setAnswers_answers : (s.setAnswers as).answers = as := rfl
@[simp] theorem State.setAnswers_asked : (s.setAnswers as).asked = s.asked := rfl
@[simp] theorem State.setAnswers_host : (s.setAnswers as).host = s.host := rfl
@[simp] theorem State.setAnswers_resetPin : (s.setAnswers as).resetPin = s.resetPin := rfl
end setAnswers

section setHost
variable (s : State) (ms : List HostMove)
@[simp] theorem State.setHost_cfg : (s.setHost ms).cfg = s.cfg := rfl
@[simp] theorem State.setHost_handle : (s.setHost ms).handle = s.handle := rfl
@[simp] theorem State.setHost_seq : (s.setHost ms).seq = s.seq := rfl
@[simp] theorem State.setHost_bw : (s.setHost ms).bw = s.bw := rfl
@[simp] theorem State.setHost_response : (s.setHost ms).response = s.response := rfl
@[simp] theorem State.setHost_lines : (s.setHost ms).lines = s.lines := rfl
@[simp] theorem State.setHost_frameOpen : (s.setHost ms).frameOpen = s.frameOpen := rfl
@[simp] theorem State.setHost_trace : (s.setHost ms).trace = s.trace := rfl
@[simp] theorem State.setHost_answers : (s.setHost ms).answers = s.answers := rfl
@[simp] theorem State.setHost_asked : (s.setHost ms).asked = s.asked := rfl
@[simp] theorem State.setHost_host : (s.setHost ms).host = ms := rfl
@[simp] theorem State.setHost_resetPin : (s.setHost ms).resetPin = s.resetPin := rfl
end setHost

section record
variable (s : State) (e : Event)
@[simp] theorem State.record_cfg : (s.record e).cfg = s.cfg := rfl
@[simp] theorem State.record_handle : (s.record e).handle = s.handle := rfl
@[simp] theorem State.record_seq : (s.record e).seq = s.seq := rfl
@[simp] theorem State.record_bw : (s.record e).bw = s.bw := rfl
@[simp] theorem State.record_response : (s.record e).response = s.response := rfl
@[simp] theorem State.record_lines : (s.record e).lines = s.lines.after e := rfl
@[simp] theorem State.record_frameOpen : (s.record e).frameOpen = openAfter s.frameOpen e := rfl
@[simp] theorem State.record_trace : (s.record e).trace = s.trace ++ [e] := rfl
@[simp] theorem State.record_answers : (s.record e).answers = s.answers := rfl
@[simp] theorem State.record_asked : (s.record e).asked = s.asked := rfl
@[simp] theorem State.record_host : (s.record e).host = s.host := rfl
@[simp] theorem State.record_resetPin : (s.record e).resetPin = s.resetPin := rfl
end record

section recordAnswered
variable (s : State) (e : Event)
@[simp] theorem State.recordAnswered_cfg : (s.recordAnswered e).cfg = s.cfg := rfl
@[simp] theorem State.recordAnswered_handle : (s.recordAnswered e).handle = s.handle := rfl
@[simp] theorem State.recordAnswered_seq : (s.recordAnswered e).seq = s.seq := rfl
@[simp] theorem State.recordAnswered_bw : (s.recordAnswered e).bw = s.bw := rfl
@[simp] theorem State.recordAnswered_response : (s.recordAnswered e).response = s.response := rfl
@[simp] theorem State.recordAnswered_lines : (s.recordAnswered e).lines = s.lines.after e := rfl
@[simp] theorem State.recordAnswered_frameOpen : (s.recordAnswered e).frameOpen = openAfter s.frameOpen e := rfl
@[simp] theorem State.recordAnswered_trace : (s.recordAnswered e).trace = s.trace ++ [e] := rfl
@[simp] theorem State.recordAnswered_answers : (s.recordAnswered e).answers = s.answers := rfl
@[simp] theorem State.recordAnswered_asked : (s.recordAnswered e).asked = s.asked + 1 := rfl
@[simp] theorem State.recordAnswered_host : (s.recordAnswered e).host = s.host := rfl
@[simp] theorem State.recordAnswered_resetPin : (s.recordAnswered e).resetPin = s.resetPin := rfl
end recordAnswered

section respond
variable (s : State) (r : Response)
@[simp] theorem State.respond_cfg : (s.respond r).cfg = s.cfg := rfl
@[simp] theorem State.respond_handle : (s.respond r).handle = s.handle := rfl
@[simp] theorem State.respond_seq : (s.respond r).seq = .idle := rfl
@[simp] theorem State.respond_bw : (s.respond r).bw = .atRest := rfl
@[simp] theorem State.respond_response : (s.respond r).response = some r := rfl
@[simp] theorem State.respond_lines : (s.respond r).lines = s.lines := rfl
@[simp] theorem State.respond_frameOpen : (s.respond r).frameOpen = s.frameOpen := rfl
@[simp] theorem State.respond_trace : (s.respond r).trace = s.trace := rfl
@[simp] theorem State.respond_answers : (s.respond r).answers = s.answers := rfl
@[simp] theorem State.respond_asked : (s.respond r).asked = s.asked := rfl
@[simp] theorem State.respond_host : (s.respond r).host = s.host := rfl
@[simp] theorem State.respond_resetPin : (s.respond r).resetPin = s.resetPin := rfl
end respond

section raiseError
variable (s : State) (e : ErrorKind)
@[simp] theorem State.raiseError_cfg : (s.raiseError e).cfg = s.cfg := rfl
@[simp] theorem State.raiseError_handle : (s.raiseError e).handle = s.handle := rfl
@[simp] theorem State.raiseError_seq : (s.raiseError e).seq = .idle := rfl
@[simp] theorem State.raiseError_bw : (s.raiseError e).bw = .atRest := rfl
@[simp] theorem State.raiseError_response : (s.raiseError e).response = some (.err e) := rfl
@[simp] theorem State.raiseError_lines : (s.raiseError e).lines = s.lines := rfl
@[simp] theorem State.raiseError_frameOpen : (s.raiseError e).frameOpen = s.frameOpen := rfl
@[simp] theorem State.raiseError_trace : (s.raiseError e).trace = s.trace := rfl
@[simp] theorem State.raiseError_answers : (s.raiseError e).answers = s.answers := rfl
@[simp] theorem State.raiseError_asked : (s.raiseError e).asked = s.asked := rfl
@[simp] theorem State.raiseError_host : (s.raiseError e).host = s.host := rfl
@[simp] theorem State.raiseError_resetPin : (s.raiseError e).resetPin = s.resetPin := rfl
end raiseError

section reject
variable (s : State)
@[simp] theorem State.reject_cfg : (s.reject).cfg = s.cfg := rfl
@[simp] theorem State.reject_handle : (s.reject).handle = s.handle := rfl
@[simp] theorem State.reject_seq : (s.reject).seq = .idle := rfl
@[simp] theorem State.reject_bw : (s.reject).bw = .atRest := rfl
@[simp] theorem State.reject_response : (s.reject).response = some (.err .preconditionViolation) := rfl
@[simp] theorem State.reject_lines : (s.reject).lines = s.lines := rfl
@[simp] theorem State.reject_frameOpen : (s.reject).frameOpen = s.frameOpen := rfl
@[simp] theorem State.reject_trace : (s.reject).trace = s.trace := rfl
@[simp] theorem State.reject_answers : (s.reject).answers = s.answers := rfl
@[simp] theorem State.reject_asked : (s.reject).asked = s.asked := rfl
@[simp] theorem State.reject_host : (s.reject).host = s.host := rfl
@[simp] theorem State.reject_resetPin : (s.reject).resetPin = s.resetPin := rfl
end reject

section finish
variable (s : State) (op : Instr) (v : Value)
@[simp] theorem State.finish_cfg : (s.finish op v).cfg = s.cfg := rfl
@[simp] theorem State.finish_handle : (s.finish op v).handle = s.handle := rfl
@[simp] theorem State.finish_seq : (s.finish op v).seq = .idle := rfl
@[simp] theorem State.finish_bw : (s.finish op v).bw = .atRest := rfl
@[simp] theorem State.finish_response : (s.finish op v).response = some (.ok v) := rfl
@[simp] theorem State.finish_lines : (s.finish op v).lines = s.lines := rfl
@[simp] theorem State.finish_frameOpen : (s.finish op v).frameOpen = (s.frameOpen || leavesFrameOpen op) := rfl
@[simp] theorem State.finish_trace : (s.finish op v).trace = s.trace := rfl
@[simp] theorem State.finish_answers : (s.finish op v).answers = s.answers := rfl
@[simp] theorem State.finish_asked : (s.finish op v).asked = s.asked := rfl
@[simp] theorem State.finish_host : (s.finish op v).host = s.host := rfl
@[simp] theorem State.finish_resetPin : (s.finish op v).resetPin = s.resetPin := rfl
end finish

section hardwareReset
variable (s : State)
@[simp] theorem hardwareReset_cfg : (hardwareReset s).cfg = s.cfg := rfl
@[simp] theorem hardwareReset_handle : (hardwareReset s).handle = .uninitialized := rfl
@[simp] theorem hardwareReset_seq : (hardwareReset s).seq = .idle := rfl
@[simp] theorem hardwareReset_bw : (hardwareReset s).bw = .atRest := rfl
@[simp] theorem hardwareReset_response : (hardwareReset s).response = none := rfl
@[simp] theorem hardwareReset_lines : (hardwareReset s).lines = .unknown := rfl
@[simp] theorem hardwareReset_frameOpen : (hardwareReset s).frameOpen = false := rfl
@[simp] theorem hardwareReset_trace : (hardwareReset s).trace = s.trace := rfl
@[simp] theorem hardwareReset_answers : (hardwareReset s).answers = s.answers := rfl
@[simp] theorem hardwareReset_asked : (hardwareReset s).asked = s.asked := rfl
@[simp] theorem hardwareReset_host : (hardwareReset s).host = s.host := rfl
@[simp] theorem hardwareReset_resetPin : (hardwareReset s).resetPin = false := rfl
end hardwareReset

end Sys2Proof.Machine
end

