-- ==== Sys2Proof/Laws/Ops.lean ====
section
/-! SUPPORT. What each shared operation can do, said once: going on with an event list, one event, running against
decided answers, a whole frame, a whole wait, accepting a request. Provers cite these and unfold none of them. -/

namespace Sys2Proof.Machine

/-! ## Answers -/

/-- A byte the answer gives is the byte read. -/
theorem byteRead_eq {n : Nat} {a : Answer} {k : Nat} (h : k < a.bytes.length) : byteRead n a k = byteAt a.bytes k := by
  simp [byteRead, byteAt, List.getD_eq_getElem?_getD, h]

/-- An answer of enough bytes gives its first ones. -/
theorem shiftedIn_of_le {n : Nat} {a : Answer} {len : Nat} (hok : a.ok = true) (h : len ≤ a.bytes.length) :
    shiftedIn n a len = some (a.bytes.take len) := by
  simp only [shiftedIn, hok, if_true, Option.some.injEq]
  apply List.ext_getElem
  · simp [h]
  · intro i h1 h2
    simp only [List.length_map, List.length_range] at h1
    simp [byteRead, List.getD_eq_getElem?_getD, Nat.lt_of_lt_of_le h1 h]

/-- An answer of the right length gives exactly its bytes. -/
theorem shiftedIn_of_length {n : Nat} {a : Answer} {len : Nat} (hok : a.ok = true) (h : a.bytes.length = len) :
    shiftedIn n a len = some a.bytes := by
  rw [shiftedIn_of_le hok (Nat.le_of_eq h.symm), List.take_of_length_le (Nat.le_of_eq h)]

/-- Whatever the answer, the bytes shifted in are as many as went out (R256). -/
theorem shiftedIn_length {n : Nat} {a : Answer} {len : Nat} {inp : List Byte} (h : shiftedIn n a len = some inp) :
    inp.length = len := by
  unfold shiftedIn at h
  split at h
  · cases h; simp
  · cases h

/-- `fail` is exactly the answer that is not `ok` (R242). -/
theorem shiftedIn_eq_none {n : Nat} {a : Answer} {len : Nat} : shiftedIn n a len = none ↔ a.ok = false := by
  unfold shiftedIn
  split <;> simp_all

/-! ## Settling -/

section settle
variable (s : State) (op : Instr) (k : Nat) (v : Value) (rest : List Micro)
@[simp] theorem State.settle_nil : s.settle op k v [] = s.finish op v := rfl
@[simp] theorem State.settle_sleep (us : Nat) :
    s.settle op k v (.sleep us :: rest) = (s.record (.sleep us)).settle op (k + 1) v rest := rfl
@[simp] theorem State.settle_waitStart :
    s.settle op k v (.waitStart :: rest) = (s.setBw ⟨.issue, 0⟩).settle op k v rest := rfl
@[simp] theorem State.settle_desel :
    s.settle op k v (.desel :: rest) = s.setSeq (.run op k (.desel :: rest) v) := rfl
@[simp] theorem State.settle_sel :
    s.settle op k v (.sel :: rest) = s.setSeq (.run op k (.sel :: rest) v) := rfl
@[simp] theorem State.settle_xchg (out : List Byte) (u : Use) :
    s.settle op k v (.xchg out u :: rest) = s.setSeq (.run op k (.xchg out u :: rest) v) := rfl
@[simp] theorem State.settle_rst (a n : Bool) :
    s.settle op k v (.rst a n :: rest) = s.setSeq (.run op k (.rst a n :: rest) v) := rfl
@[simp] theorem State.settle_wp (a : Bool) :
    s.settle op k v (.wp a :: rest) = s.setSeq (.run op k (.wp a :: rest) v) := rfl
end settle

/-- An item that asks for an answer stops the settling. -/
theorem State.settle_of_headAnswered (s : State) (op : Instr) (k : Nat) (v : Value) {todo : List Micro}
    (h : headAnswered todo = true) : s.settle op k v todo = s.setSeq (.run op k todo v) := by
  cases todo with
  | nil => simp [headAnswered] at h
  | cons m rest => cases m <;> simp_all [headAnswered]

/-- Settling ends in one of two ways: the operation has returned, or it stands at an item that asks for an answer;
before that it has slept and started waits, and nothing else has changed. -/
theorem State.settle_induction {P : State → Prop} (s : State) (op : Instr) (k : Nat) (v : Value) (todo : List Micro)
    (h0 : P s) (hs : ∀ t us, P t → P (t.record (.sleep us))) (hw : ∀ t, P t → P (t.setBw ⟨.issue, 0⟩))
    (hf : ∀ t, P t → P (t.finish op v)) (hr : ∀ t k rest, P t → P (t.setSeq (.run op k rest v))) :
    P (s.settle op k v todo) := by
  induction todo generalizing s k with
  | nil => exact hf s h0
  | cons m rest ih =>
    cases m with
    | sleep us => exact ih _ _ (hs s us h0)
    | waitStart => exact ih _ _ (hw s h0)
    | _ => exact hr s _ _ h0

/-! ## Nothing below drive reads or writes the decided answers -/

theorem State.settle_setAnswers (s : State) (xs : List Answer) (op : Instr) (k : Nat) (v : Value) (todo : List Micro) :
    (s.setAnswers xs).settle op k v todo = (s.settle op k v todo).setAnswers xs := by
  induction todo generalizing s k with
  | nil => rfl
  | cons m rest ih =>
    cases m with
    | sleep us => exact ih (s.record (.sleep us)) (k + 1)
    | waitStart => exact ih (s.setBw ⟨.issue, 0⟩) k
    | _ => rfl

theorem State.afterPoll_setAnswers (s : State) (xs : List Answer) (op : Instr) (k : Nat) (v : Value)
    (rest : List Micro) (b : Byte) :
    (s.setAnswers xs).afterPoll op k v rest b = (s.afterPoll op k v rest b).setAnswers xs := by
  simp only [State.afterPoll, State.setAnswers_cfg, State.setAnswers_bw]
  split
  · exact State.settle_setAnswers (s.setBw _) xs op (k + 1) v rest
  all_goals rfl

theorem State.afterDensity_setAnswers (s : State) (xs : List Answer) (op : Instr) (k : Nat) (v : Value)
    (rest : List Micro) (b : Byte) :
    (s.setAnswers xs).afterDensity op k v rest b = (s.afterDensity op k v rest b).setAnswers xs := by
  simp only [State.afterDensity, State.setAnswers_cfg]
  split
  · rfl
  · split
    · rfl
    · exact State.settle_setAnswers s xs op (k + 1) v _

theorem State.useBytes_setAnswers (s : State) (xs : List Answer) (op : Instr) (k : Nat) (v : Value)
    (rest : List Micro) (inp : Nat → Byte) (u : Use) :
    (s.setAnswers xs).useBytes op k v rest inp u = (s.useBytes op k v rest inp u).setAnswers xs := by
  cases u with
  | poll => exact State.afterPoll_setAnswers s xs op k v rest _
  | density => exact State.afterDensity_setAnswers s xs op k v rest _
  | latchId i b => exact State.settle_setAnswers (s.setHandle _) xs op (k + 1) v rest
  | _ => exact State.settle_setAnswers s xs op (k + 1) _ rest

theorem State.event_setAnswers (s : State) (xs : List Answer) (op : Instr) (k : Nat) (v : Value) (a : Answer)
    (todo : List Micro) :
    (s.setAnswers xs).event op k v a todo = (s.event op k v a todo).setAnswers xs := by
  cases todo with
  | nil => rfl
  | cons m rest =>
    cases m with
    | desel =>
      simp only [State.event, State.lineEvent]
      split
      · exact State.settle_setAnswers (s.recordAnswered _) xs _ _ _ _
      · rfl
    | sel =>
      simp only [State.event, State.lineEvent]
      split
      · exact State.settle_setAnswers (s.recordAnswered _) xs _ _ _ _
      · rfl
    | xchg out u =>
      simp only [State.event, State.exchange, State.setAnswers_asked]
      cases shiftedIn s.asked a out.length with
      | none => rfl
      | some bytes =>
        exact State.useBytes_setAnswers (s.recordAnswered (.xchg out (some bytes))) xs op k v rest (byteRead s.asked a) u
    | rst active needed =>
      simp only [State.event, State.resetEvent]
      split
      · rfl
      · exact State.settle_setAnswers (s.recordAnswered (.rst active a.pin)) xs _ _ _ _
    | wp active => exact State.settle_setAnswers (s.recordAnswered (.wp active a.pin)) xs _ _ _ _
    | sleep us => exact State.settle_setAnswers s xs _ _ _ _
    | waitStart => exact State.settle_setAnswers s xs _ _ _ _

theorem State.advance_setAnswers (s : State) (xs : List Answer) (a : Answer) :
    (s.setAnswers xs).advance a = (s.advance a).setAnswers xs := by
  simp only [State.advance, State.setAnswers_seq]
  split
  · rfl
  · exact State.event_setAnswers s xs _ _ _ _ _

@[simp] theorem State.setAnswers_busy (s : State) (xs : List Answer) : (s.setAnswers xs).busy = s.busy := rfl

@[simp] theorem State.setAnswers_setAnswers (s : State) (xs ys : List Answer) :
    (s.setAnswers xs).setAnswers ys = s.setAnswers ys := rfl

/-! ## Driving -/

@[simp] theorem State.drive_nil (s : State) : s.drive [] = s.setAnswers [] := rfl

theorem State.drive_idle {s : State} (h : s.busy = false) (as : List Answer) : s.drive as = s.setAnswers as := by
  cases as <;> simp [State.drive, h]

theorem State.drive_busy {s : State} (h : s.busy = true) (a : Answer) (as : List Answer) :
    s.drive (a :: as) = (s.advance a).drive as := by
  simp [State.drive, h]

@[simp] theorem State.drive_setAnswers (s : State) (xs as : List Answer) :
    (s.setAnswers xs).drive as = s.drive as := by
  induction as generalizing s with
  | nil => rfl
  | cons a as ih =>
    cases h : s.busy
    · rw [State.drive_idle h, State.drive_idle (s := s.setAnswers xs) h]; rfl
    · rw [State.drive_busy h, State.drive_busy (s := s.setAnswers xs) h, State.advance_setAnswers]
      exact ih (s.advance a)

/-- What every event keeps, a run against decided answers keeps. -/
theorem State.drive_induction {P : State → Prop} {s : State} (h0 : P s) (ha : ∀ t a, t.busy = true → P t → P (t.advance a))
    (hs : ∀ t xs, P t → P (t.setAnswers xs)) (as : List Answer) : P (s.drive as) := by
  induction as generalizing s with
  | nil => exact hs s [] h0
  | cons a as ih =>
    cases h : s.busy
    · rw [State.drive_idle h]; exact hs s _ h0
    · rw [State.drive_busy h]; exact ih (ha s a h h0)

/-- What every event keeps, carrying an operation on keeps. -/
theorem State.resume_induction {P : State → Prop} {s : State} (h0 : P s) (hb : s.busy = true)
    (ha : ∀ t a, t.busy = true → P t → P (t.advance a)) (hs : ∀ t xs, P t → P (t.setAnswers xs)) : P s.resume := by
  unfold State.resume
  split
  · exact ha s _ hb h0
  · exact State.drive_induction h0 ha hs _

/-- Deciding more answers later is the same as having decided them at once. -/
theorem State.drive_append (s : State) (xs ys : List Answer) :
    s.drive (xs ++ ys) = if (s.drive xs).busy then (s.drive xs).drive ys
      else (s.drive xs).setAnswers ((s.drive xs).answers ++ ys) := by
  induction xs generalizing s with
  | nil =>
    simp only [List.nil_append, State.drive_nil, State.drive_setAnswers, State.setAnswers_busy,
      State.setAnswers_answers, State.setAnswers_setAnswers]
    cases h : s.busy
    · simp [State.drive_idle h]
    · simp
  | cons x xs ih =>
    cases h : s.busy
    · simp [State.drive_idle h, h]
    · rw [List.cons_append, State.drive_busy h, State.drive_busy h, ih]

end Sys2Proof.Machine
end

