-- ==== Sys2Proof/Laws/Runs.lean ====
section
/-! SUPPORT. Whole pieces of a run against the transport's answers: a frame, a start, a wait; and the head of every
operation. -/

namespace Sys2Proof.Machine

/-! ## Recorded events -/

@[simp] theorem State.recorded_nil (s : State) : s.recorded [] = s := by simp [State.recorded]

theorem State.recorded_append (s : State) (es fs : List Event) :
    s.recorded (es ++ fs) = (s.recorded es).recorded fs := by
  simp [State.recorded, Nat.add_assoc]

theorem State.recorded_of_answered {s : State} {e : Event} (h : e.answered = true) :
    s.recordAnswered e = s.recorded [e] := by
  simp [State.recorded, State.recordAnswered, State.record, h]

theorem State.recorded_sleep (s : State) (us : Nat) : s.record (.sleep us) = s.recorded [.sleep us] := by
  simp [State.recorded, State.record, Event.answered]

section recorded
variable (s : State) (es : List Event)
@[simp] theorem State.recorded_cfg : (s.recorded es).cfg = s.cfg := rfl
@[simp] theorem State.recorded_handle : (s.recorded es).handle = s.handle := rfl
@[simp] theorem State.recorded_seq : (s.recorded es).seq = s.seq := rfl
@[simp] theorem State.recorded_bw : (s.recorded es).bw = s.bw := rfl
@[simp] theorem State.recorded_response : (s.recorded es).response = s.response := rfl
@[simp] theorem State.recorded_trace : (s.recorded es).trace = s.trace ++ es := rfl
@[simp] theorem State.recorded_answers : (s.recorded es).answers = s.answers := rfl
@[simp] theorem State.recorded_host : (s.recorded es).host = s.host := rfl
@[simp] theorem State.recorded_resetPin : (s.recorded es).resetPin = s.resetPin := rfl
@[simp] theorem State.setSeq_recorded (q : Seq) : (s.setSeq q).recorded es = (s.recorded es).setSeq q := rfl
@[simp] theorem State.setBw_recorded (b : Bw) : (s.setBw b).recorded es = (s.recorded es).setBw b := rfl
@[simp] theorem State.setResponse_recorded (r : Option Response) :
    (s.setResponse r).recorded es = (s.recorded es).setResponse r := rfl
@[simp] theorem State.setHandle_recorded (h : Handle) : (s.setHandle h).recorded es = (s.recorded es).setHandle h := rfl
end recorded

/-! ## What the end of an operation overwrites -/

section overwritten
variable (s : State)
@[simp] theorem State.setSeq_setSeq (q q' : Seq) : (s.setSeq q).setSeq q' = s.setSeq q' := rfl
@[simp] theorem State.setBw_setBw (b b' : Bw) : (s.setBw b).setBw b' = s.setBw b' := rfl
@[simp] theorem State.finish_setSeq (q : Seq) (op : Instr) (v : Value) : (s.setSeq q).finish op v = s.finish op v := rfl
@[simp] theorem State.finish_setBw (b : Bw) (op : Instr) (v : Value) : (s.setBw b).finish op v = s.finish op v := rfl
@[simp] theorem State.finish_setResponse (r : Option Response) (op : Instr) (v : Value) :
    (s.setResponse r).finish op v = s.finish op v := rfl
@[simp] theorem State.raiseError_setSeq (q : Seq) (e : ErrorKind) : (s.setSeq q).raiseError e = s.raiseError e := rfl
@[simp] theorem State.raiseError_setBw (b : Bw) (e : ErrorKind) : (s.setBw b).raiseError e = s.raiseError e := rfl
@[simp] theorem State.raiseError_setResponse (r : Option Response) (e : ErrorKind) :
    (s.setResponse r).raiseError e = s.raiseError e := rfl

theorem State.settle_setSeq (q : Seq) (op : Instr) (k : Nat) (v : Value) (todo : List Micro) :
    (s.setSeq q).settle op k v todo = s.settle op k v todo := by
  induction todo generalizing s k with
  | nil => rfl
  | cons m rest ih =>
    cases m with
    | sleep us => exact ih (s.record (.sleep us)) (k + 1)
    | waitStart => exact ih (s.setBw ⟨.issue, 0⟩) k
    | _ => rfl

theorem State.useBytes_setSeq (q : Seq) (op : Instr) (k : Nat) (v : Value) (rest : List Micro) (inp : Nat → Byte)
    (u : Use) : (s.setSeq q).useBytes op k v rest inp u = s.useBytes op k v rest inp u := by
  cases u with
  | poll =>
    simp only [State.useBytes, State.afterPoll, State.setSeq_cfg, State.setSeq_bw]
    split
    · exact State.settle_setSeq (s.setBw _) q op (k + 1) v rest
    all_goals rfl
  | density =>
    simp only [State.useBytes, State.afterDensity, State.setSeq_cfg]
    split
    · rfl
    · split
      · rfl
      · exact State.settle_setSeq s q op (k + 1) v _
  | latchId i b => exact State.settle_setSeq (s.setHandle _) q op (k + 1) v rest
  | _ => exact State.settle_setSeq s q op (k + 1) _ rest
end overwritten

/-! ## Frames and starts -/

@[simp] theorem State.setSeq_busy (s : State) (op : Instr) (k : Nat) (todo : List Micro) (v : Value) :
    (s.setSeq (.run op k todo v)).busy = true := rfl

@[simp] theorem State.finish_busy (s : State) (op : Instr) (v : Value) : (s.finish op v).busy = false := rfl

@[simp] theorem State.raiseError_busy (s : State) (e : ErrorKind) : (s.raiseError e).busy = false := rfl

/-- A deselection that answers `ok`. -/
theorem State.drive_desel (s : State) (op : Instr) (k : Nat) (v : Value) (rest : List Micro) {a : Answer}
    (h : a.ok = true) (as : List Answer) :
    (s.setSeq (.run op k (.desel :: rest) v)).drive (a :: as)
      = ((s.recorded [.desel true]).settle op (k + 1) v rest).drive as := by
  rw [State.drive_busy (by simp)]
  simp only [State.advance, State.setSeq_seq, State.event, State.lineEvent, h, if_true]
  rw [State.recorded_of_answered (by rfl), State.setSeq_recorded, State.settle_setSeq]

/-- A selection that answers `ok`. -/
theorem State.drive_sel (s : State) (op : Instr) (k : Nat) (v : Value) (rest : List Micro) {a : Answer}
    (h : a.ok = true) (as : List Answer) :
    (s.setSeq (.run op k (.sel :: rest) v)).drive (a :: as)
      = ((s.recorded [.sel true]).settle op (k + 1) v rest).drive as := by
  rw [State.drive_busy (by simp)]
  simp only [State.advance, State.setSeq_seq, State.event, State.lineEvent, h, if_true]
  rw [State.recorded_of_answered (by rfl), State.setSeq_recorded, State.settle_setSeq]

/-- A write-protect call. -/
theorem State.drive_wp (s : State) (op : Instr) (k : Nat) (v : Value) (rest : List Micro) (active : Bool) (a : Answer)
    (as : List Answer) :
    (s.setSeq (.run op k (.wp active :: rest) v)).drive (a :: as)
      = ((s.recorded [.wp active a.pin]).settle op (k + 1) v rest).drive as := by
  rw [State.drive_busy (by simp)]
  simp only [State.advance, State.setSeq_seq, State.event]
  rw [State.recorded_of_answered (by rfl), State.setSeq_recorded, State.settle_setSeq]

/-- A reset call that does not end the operation. -/
theorem State.drive_rst (s : State) (op : Instr) (k : Nat) (v : Value) (rest : List Micro) (active needed : Bool)
    {a : Answer} (h : (needed && !a.pin) = false) (as : List Answer) :
    (s.setSeq (.run op k (.rst active needed :: rest) v)).drive (a :: as)
      = ((s.recorded [.rst active a.pin]).settle op (k + 1) v rest).drive as := by
  rw [State.drive_busy (by simp)]
  simp only [State.advance, State.setSeq_seq, State.event, State.resetEvent, h, Bool.false_eq_true, if_false]
  rw [State.recorded_of_answered (by rfl), State.setSeq_recorded, State.settle_setSeq]

/-- An exchange whose answer has enough bytes. -/
theorem State.drive_xchg (s : State) (op : Instr) (k : Nat) (v : Value) (rest : List Micro) (out : List Byte) (u : Use)
    {a : Answer} (h : a.ok = true) (hl : out.length ≤ a.bytes.length) (as : List Answer) :
    (s.setSeq (.run op k (.xchg out u :: rest) v)).drive (a :: as)
      = ((s.recorded [.xchg out (some (a.bytes.take out.length))]).useBytes op k v rest (byteRead s.asked a) u).drive as := by
  rw [State.drive_busy (by simp)]
  simp only [State.advance, State.setSeq_seq, State.event, State.exchange, State.setSeq_asked, shiftedIn_of_le h hl]
  rw [State.recorded_of_answered (by rfl), State.setSeq_recorded, State.useBytes_setSeq]

/-- How many answer bytes a use reads: up to `in[1]` (R150), up to `in[4]` (R156), or none. -/
def Use.reads : Use → Nat
  | .ignore => 0
  | .poll | .density | .status | .ready | .compare => 2
  | .latchId _ _ | .id => 5

/-- A use depends on the bytes it reads alone. -/
theorem State.useBytes_congr (s : State) (op : Instr) (k : Nat) (v : Value) (rest : List Micro) {f g : Nat → Byte}
    {u : Use} (h : ∀ i, i < u.reads → f i = g i) : s.useBytes op k v rest f u = s.useBytes op k v rest g u := by
  cases u with
  | ignore => rfl
  | latchId i b =>
    have h1 := h 1 (by simp [Use.reads])
    have h2 := h 2 (by simp [Use.reads])
    have h3 := h 3 (by simp [Use.reads])
    have h4 := h 4 (by simp [Use.reads])
    simp only [State.useBytes, setupHandle, h1, h2, h3, h4]
  | id =>
    have h1 := h 1 (by simp [Use.reads])
    have h2 := h 2 (by simp [Use.reads])
    have h3 := h 3 (by simp [Use.reads])
    have h4 := h 4 (by simp [Use.reads])
    simp only [State.useBytes, idValue, h1, h2, h3, h4]
  | _ =>
    have h1 := h 1 (by simp [Use.reads])
    simp only [State.useBytes, h1]

/-- A whole frame that is let through, with the bytes its use reads. -/
theorem State.drive_frame (s : State) (op : Instr) (k : Nat) (v : Value) (rest : List Micro) (out : List Byte) (u : Use)
    {p : Reply} {len : Nat} (h : p.good len) (hout : out.length ≤ len) (hu : u.reads ≤ len) (as : List Answer) :
    (s.setSeq (.run op k (frame out u ++ rest) v)).drive (p.answers ++ as)
      = ((s.recorded (p.events out)).useBytes op (k + 2) v rest (byteAt p.xchg.bytes) u).drive as := by
  obtain ⟨h1, h2, h3, h4⟩ := h
  simp only [frame, Reply.answers, List.cons_append, List.nil_append]
  rw [State.drive_desel _ _ _ _ _ h1, State.settle_sel, State.drive_sel _ _ _ _ _ h2, State.settle_xchg,
    State.drive_xchg _ _ _ _ _ _ _ h3 (Nat.le_trans hout h4), ← State.recorded_append, ← State.recorded_append,
    State.useBytes_congr _ _ _ _ _ fun i hi => byteRead_eq (Nat.lt_of_lt_of_le hi (Nat.le_trans hu h4))]
  rfl

/-- A whole status frame that is let through. -/
theorem State.drive_status (s : State) (op : Instr) (k : Nat) (v : Value) (rest : List Micro) (u : Use) {p : Reply}
    (h : p.good (statusLength s.cfg)) (hu : u.reads ≤ 2) (as : List Answer) :
    (s.setSeq (.run op k (frame (statusFrame s.cfg) u ++ rest) v)).drive (p.answers ++ as)
      = ((s.recorded (p.events (statusFrame s.cfg))).useBytes op (k + 2) v rest (byteAt p.xchg.bytes) u).drive as :=
  State.drive_frame s op k v rest _ u h (Nat.le_max_right _ _) (Nat.le_trans hu (Nat.le_max_left _ _)) as

/-- A whole ID frame that is let through. -/
theorem State.drive_id (s : State) (op : Instr) (k : Nat) (v : Value) (rest : List Micro) (u : Use) {p : Reply}
    (h : p.good (idLength s.cfg)) (hu : u.reads ≤ 5) (as : List Answer) :
    (s.setSeq (.run op k (frame (idFrame s.cfg) u ++ rest) v)).drive (p.answers ++ as)
      = ((s.recorded (p.events (idFrame s.cfg))).useBytes op (k + 2) v rest (byteAt p.xchg.bytes) u).drive as :=
  State.drive_frame s op k v rest _ u h (Nat.le_max_right _ _) (Nat.le_trans hu (Nat.le_max_left _ _)) as

/-- A whole frame whose answer is not used. -/
theorem State.drive_frame_ignore (s : State) (op : Instr) (k : Nat) (v : Value) (rest : List Micro) (out : List Byte)
    {p : Reply} (h : p.good out.length) (as : List Answer) :
    (s.setSeq (.run op k (frame out .ignore ++ rest) v)).drive (p.answers ++ as)
      = ((s.recorded (p.events out)).settle op (k + 3) v rest).drive as :=
  State.drive_frame s op k v rest out .ignore h (Nat.le_refl _) (Nat.zero_le _) as

/-- A start that is let through. -/
theorem State.drive_start (s : State) (op : Instr) (k : Nat) (v : Value) (rest : List Micro) {a b : Answer}
    (ha : a.ok = true) (hb : b.ok = true) (as : List Answer) :
    (s.setSeq (.run op k (start ++ rest) v)).drive (a :: b :: as)
      = ((s.recorded startEvents).settle op (k + 2) v rest).drive as := by
  simp only [start, List.cons_append, List.nil_append]
  rw [State.drive_desel _ _ _ _ _ ha, State.settle_sel, State.drive_sel _ _ _ _ _ hb, ← State.recorded_append]
  rfl

/-! ## The wait -/

/-- One busy poll within the budget goes back to the start of the status frame, one more poll counted. -/
theorem State.drive_poll_busy (s : State) (op : Instr) (k : Nat) (v : Value) (rest : List Micro) {p : Reply}
    (h : p.good (statusLength s.cfg)) (hb : rdy p.status = false)
    (hn : ∀ n, s.cfg.pollBudget = some n → s.bw.count + 1 < n) (as : List Answer) :
    ∃ b : Bw, b.state = .issue ∧ b.count ≤ s.bw.count + 1 ∧
      (s.setSeq (.run op k (poll s.cfg ++ rest) v)).drive (p.answers ++ as)
        = (((s.recorded (p.events (statusFrame s.cfg))).setBw b).setSeq (.run op k (poll s.cfg ++ rest) v)).drive as := by
  rw [poll, State.drive_status _ _ _ _ _ _ h (by decide)]
  simp only [State.useBytes, State.afterPoll, State.recorded_cfg, State.recorded_bw, bwTest]
  have hb' : rdy (byteAt p.xchg.bytes 1) = false := hb
  simp only [hb', Bool.false_eq_true, if_false]
  cases hc : s.cfg.pollBudget with
  | none => exact ⟨⟨.issue, s.bw.count⟩, rfl, Nat.le_succ _, rfl⟩
  | some n =>
    have := hn n hc
    have h' : ¬ n ≤ s.bw.count + 1 := by omega
    simp only [h', if_false]
    exact ⟨⟨.issue, s.bw.count + 1⟩, rfl, Nat.le_refl _, rfl⟩

/-- A run of busy polls within the budget goes nowhere: the operation stands where it stood. -/
theorem State.drive_polls_busy (s : State) (op : Instr) (k : Nat) (v : Value) (rest : List Micro) {ps : List Reply}
    (h : allBusy s.cfg ps) (hn : ∀ n, s.cfg.pollBudget = some n → s.bw.count + ps.length < n) (as : List Answer) :
    ∃ b : Bw, (s.bw.state = .issue → b.state = .issue) ∧ b.count ≤ s.bw.count + ps.length ∧
      (s.setSeq (.run op k (poll s.cfg ++ rest) v)).drive (pollAnswers ps ++ as)
        = (((s.recorded (pollEvents s.cfg ps)).setBw b).setSeq (.run op k (poll s.cfg ++ rest) v)).drive as := by
  induction ps generalizing s with
  | nil => exact ⟨s.bw, id, by simp, by simp [pollAnswers, pollEvents]; rfl⟩
  | cons p ps ih =>
    obtain ⟨hp, hps⟩ := List.forall_mem_cons.mp h
    simp only [List.length_cons] at hn
    obtain ⟨b, hbs, hbc, hb⟩ := s.drive_poll_busy op k v rest hp.1 hp.2 (fun n e => by have := hn n e; omega)
      (pollAnswers ps ++ as)
    obtain ⟨b', hbs', hbc', hb'⟩ := ih ((s.recorded (p.events (statusFrame s.cfg))).setBw b) hps
      (fun n e => by have := hn n e; simp; omega)
    refine ⟨b', fun _ => hbs' hbs, by simp at hbc'; simp; omega, ?_⟩
    have e1 : pollAnswers (p :: ps) ++ as = p.answers ++ (pollAnswers ps ++ as) := by simp [pollAnswers]
    have e2 : pollEvents s.cfg (p :: ps) = p.events (statusFrame s.cfg) ++ pollEvents s.cfg ps := by simp [pollEvents]
    rw [e1, hb, e2, State.recorded_append]
    exact hb'

/-- The poll that finds the chip ready leaves the loop. -/
theorem State.drive_poll_ready (s : State) (op : Instr) (k : Nat) (v : Value) (rest : List Micro) {p : Reply}
    (h : p.good (statusLength s.cfg)) (hr : rdy p.status = true) (as : List Answer) :
    (s.setSeq (.run op k (poll s.cfg ++ rest) v)).drive (p.answers ++ as)
      = (((s.recorded (p.events (statusFrame s.cfg))).setBw ⟨.idle, s.bw.count⟩).settle op (k + 3) v rest).drive as := by
  rw [poll, State.drive_status _ _ _ _ _ _ h (by decide)]
  have hr' : rdy (byteAt p.xchg.bytes 1) = true := hr
  simp only [State.useBytes, State.afterPoll, bwTest, hr', if_true]
  rfl

/-- The poll that uses up the budget raises `Timeout`. -/
theorem State.drive_poll_timeout (s : State) (op : Instr) (k : Nat) (v : Value) (rest : List Micro) {p : Reply}
    (h : p.good (statusLength s.cfg)) (hb : rdy p.status = false) {n : Nat} (hc : s.cfg.pollBudget = some n)
    (hn : n ≤ s.bw.count + 1) (as : List Answer) :
    (s.setSeq (.run op k (poll s.cfg ++ rest) v)).drive (p.answers ++ as)
      = ((s.recorded (p.events (statusFrame s.cfg))).raiseError .timeout).setAnswers as := by
  rw [poll, State.drive_status _ _ _ _ _ _ h (by decide)]
  have hb' : rdy (byteAt p.xchg.bytes 1) = false := hb
  simp only [State.useBytes, State.afterPoll, State.recorded_cfg, State.recorded_bw, bwTest, hb', hc, hn,
    Bool.false_eq_true, if_false, if_true]
  exact State.drive_idle rfl as

/-- A whole wait that ends normally: its polls, and then the rest of the operation (R153, big-step). -/
theorem State.settle_wait (s : State) (op : Instr) (k : Nat) (v : Value) (rest : List Micro) {ps : List Reply}
    (h : waitEnds s.cfg ps) (as : List Answer) :
    ∃ b : Bw, (s.settle op k v (wait s.cfg ++ rest)).drive (pollAnswers ps ++ as)
      = (((s.recorded (pollEvents s.cfg ps)).setBw b).settle op (k + 3) v rest).drive as := by
  obtain ⟨busy, last, rfl, hbusy, hlast, hr, hn⟩ := h
  have e0 : s.settle op k v (wait s.cfg ++ rest)
      = (s.setBw ⟨.issue, 0⟩).setSeq (.run op k (poll s.cfg ++ rest) v) := rfl
  have e1 : pollAnswers (busy ++ [last]) ++ as = pollAnswers busy ++ (last.answers ++ as) := by simp [pollAnswers]
  have e2 : pollEvents s.cfg (busy ++ [last]) = pollEvents s.cfg busy ++ last.events (statusFrame s.cfg) := by
    simp [pollEvents]
  obtain ⟨b, -, -, hb⟩ := (s.setBw ⟨.issue, 0⟩).drive_polls_busy op k v rest hbusy
    (fun n e => by have := hn n e; simp at this ⊢; omega) (last.answers ++ as)
  rw [e0, e1, e2]
  refine ⟨⟨.idle, b.count⟩, ?_⟩
  refine hb.trans ?_
  have := ((s.recorded (pollEvents s.cfg busy)).setBw b).drive_poll_ready op k v rest hlast hr as
  rw [State.recorded_append]
  exact this

/-- A wait that runs out of budget: `n` busy polls, then `Timeout` (R153 (e), R248). -/
theorem State.settle_wait_timeout (s : State) (op : Instr) (k : Nat) (v : Value) (rest : List Micro) {ps : List Reply}
    (h : allBusy s.cfg ps) {n : Nat} (hc : s.cfg.pollBudget = some n) (hlen : ps.length = n) (hpos : 1 ≤ n)
    (as : List Answer) :
    (s.settle op k v (wait s.cfg ++ rest)).drive (pollAnswers ps ++ as) = s.raised as (pollEvents s.cfg ps) .timeout := by
  have e0 : s.settle op k v (wait s.cfg ++ rest)
      = (s.setBw ⟨.issue, 0⟩).setSeq (.run op k (poll s.cfg ++ rest) v) := rfl
  obtain ⟨busy, last, rfl⟩ : ∃ busy last, ps = busy ++ [last] := by
    rcases List.eq_nil_or_concat ps with rfl | ⟨l, x, rfl⟩
    · simp at hlen; omega
    · exact ⟨l, x, by simp⟩
  have hb1 : allBusy s.cfg busy := fun p hp => h p (by simp [hp])
  have hl := h last (by simp)
  simp only [List.length_append, List.length_singleton] at hlen
  have e1 : pollAnswers (busy ++ [last]) ++ as = pollAnswers busy ++ (last.answers ++ as) := by simp [pollAnswers]
  have e2 : pollEvents s.cfg (busy ++ [last]) = pollEvents s.cfg busy ++ last.events (statusFrame s.cfg) := by
    simp [pollEvents]
  have key : ∀ (t : State) (qs : List Reply), t.cfg = s.cfg → allBusy t.cfg qs → t.bw.count + qs.length + 1 = n →
      (t.setSeq (.run op k (poll t.cfg ++ rest) v)).drive (pollAnswers qs ++ (last.answers ++ as))
        = (((t.recorded (pollEvents t.cfg qs)).recorded (last.events (statusFrame s.cfg))).raiseError .timeout).setAnswers as := by
    intro t qs
    induction qs generalizing t with
    | nil =>
      intro hcfg _ hcount
      have hc' : t.cfg.pollBudget = some n := by rw [hcfg, hc]
      have := t.drive_poll_timeout op k v rest (p := last) (by rw [hcfg]; exact hl.1) hl.2 hc'
        (by simp at hcount; omega) as
      simpa [pollAnswers, pollEvents, hcfg] using this
    | cons q qs ih =>
      intro hcfg hq hcount
      obtain ⟨hq1, hq2⟩ := List.forall_mem_cons.mp hq
      have hc' : t.cfg.pollBudget = some n := by rw [hcfg, hc]
      simp only [List.length_cons] at hcount
      have e3 : pollAnswers (q :: qs) ++ (last.answers ++ as)
          = q.answers ++ (pollAnswers qs ++ (last.answers ++ as)) := by simp [pollAnswers]
      have e4 : pollEvents t.cfg (q :: qs) = q.events (statusFrame t.cfg) ++ pollEvents t.cfg qs := by simp [pollEvents]
      have hq3 : rdy (byteAt q.xchg.bytes 1) = false := hq1.2
      have hne : ¬ n ≤ t.bw.count + 1 := by omega
      rw [e3, e4, poll, State.drive_status _ _ _ _ _ _ hq1.1 (by decide)]
      simp only [State.useBytes, State.afterPoll, State.recorded_cfg, State.recorded_bw, bwTest, hq3, hc', hne,
        Bool.false_eq_true, if_false]
      have := ih ((t.recorded (q.events (statusFrame t.cfg))).setBw ⟨.issue, t.bw.count + 1⟩) hcfg hq2
        (by simp; omega)
      rw [State.recorded_append]
      exact this
  rw [e0, e1, e2]
  refine (key (s.setBw ⟨.issue, 0⟩) busy rfl hb1 (by simpa using hlen)).trans ?_
  rw [State.raised, State.recorded_append]
  rfl

/-! ## The head of every operation -/

/-- An operation whose phase and operands are right is accepted. -/
theorem whenReady_accepts {plan : Cfg → Regs → Option Job} {s : State} {r : Regs} {j : Job} (hi : s.seq = .idle)
    (hr : s.handle = .ready r) (hp : plan s.cfg r = some j) : whenReady plan s = .next (s.launch j) := by
  simp [whenReady, whenIdle, hi, hr, hp]

/-- An operation outside `Ready` is rejected (R243). -/
theorem whenReady_rejects_phase {plan : Cfg → Regs → Option Job} {s : State} (hi : s.seq = .idle)
    (hr : s.handle.phase ≠ .ready) : whenReady plan s = .next s.reject := by
  cases h : s.handle <;> simp_all [whenReady, whenIdle, Handle.phase]

/-- An operation whose operands are out of range is rejected (R244). -/
theorem whenReady_rejects_operands {plan : Cfg → Regs → Option Job} {s : State} {r : Regs} (hi : s.seq = .idle)
    (hr : s.handle = .ready r) (hp : plan s.cfg r = none) : whenReady plan s = .next s.reject := by
  simp [whenReady, whenIdle, hi, hr, hp]

/-- Everything an operation's head can do. -/
theorem whenReady_cases {plan : Cfg → Regs → Option Job} {s : State} :
    ((∃ op k todo v, s.seq = .run op k todo v) ∧ whenReady plan s = .refused .requestWhileBusy)
    ∨ (s.seq = .idle ∧ whenReady plan s = .next s.reject)
    ∨ (∃ r j, s.seq = .idle ∧ s.handle = .ready r ∧ plan s.cfg r = some j ∧ whenReady plan s = .next (s.launch j)) := by
  cases hq : s.seq with
  | run op k todo v => exact .inl ⟨⟨op, k, todo, v, rfl⟩, by simp [whenReady, whenIdle, hq]⟩
  | idle =>
    cases h : s.handle with
    | uninitialized => exact .inr (.inl ⟨rfl, whenReady_rejects_phase hq (by simp [h, Handle.phase])⟩)
    | failed => exact .inr (.inl ⟨rfl, whenReady_rejects_phase hq (by simp [h, Handle.phase])⟩)
    | ready r =>
      cases hp : plan s.cfg r with
      | none => exact .inr (.inl ⟨rfl, whenReady_rejects_operands hq h hp⟩)
      | some j => exact .inr (.inr ⟨r, j, rfl, rfl, hp, whenReady_accepts hq h hp⟩)

/-- Accepting: no response yet, and the event list is run against the decided answers (R36). -/
theorem State.launch_eq (s : State) (j : Job) :
    s.launch j = ((s.setResponse none).settle j.op 0 j.value j.todo).drive s.answers := rfl

end Sys2Proof.Machine
end

