-- ==== Sys2Proof/Laws/Exec.lean ====
section
/-! SUPPORT. Everything executing one row can do: refuse, reject, write the handle, or accept one operation whose event
list has the shape the row's rule gives it. -/

namespace Sys2Proof.Machine

/-- The event list of each kind of operation, and the value it returns if no event changes it: what R150 to R222 write,
up to the bytes of the operation's own frame. -/
inductive JobShape (c : Cfg) : Kind → List Micro → Value → Prop
  | setup : JobShape c .setup (frame (statusFrame c) .density) .unit
  | readStatus : JobShape c .readStatus (frame (statusFrame c) .status) .unit
  | isReady : JobShape c .isReady (frame (statusFrame c) .ready) .unit
  | waitUntilReady : JobShape c .waitUntilReady (wait c) .unit
  | readId : JobShape c .readId (frame (idFrame c) .id) .unit
  | pageRead (out : List Byte) : JobShape c .pageRead (frame out .ignore) .unit
  | arrayRead (out : List Byte) : JobShape c .arrayRead (frame out .ignore) .unit
  | bufferRead (out : List Byte) : JobShape c .bufferRead (wait c ++ frame out .ignore) .unit
  | bufferWrite (out : List Byte) : JobShape c .bufferWrite (wait c ++ frame out .ignore) .unit
  | bufferToPage (out : List Byte) : JobShape c .bufferToPage (frame out .ignore ++ start) .unit
  | pageToBuffer (out : List Byte) : JobShape c .pageToBuffer (frame out .ignore ++ start) .unit
  | pageErase (out : List Byte) : JobShape c .pageErase (wait c ++ (frame out .ignore ++ start)) .unit
  | blockErase (out : List Byte) : JobShape c .blockErase (wait c ++ (frame out .ignore ++ start)) .unit
  | sectorErase (out : List Byte) : JobShape c .sectorErase (wait c ++ (frame out .ignore ++ start)) .unit
  | compare (out : List Byte) :
      JobShape c .compare (frame out .ignore ++ start ++ wait c ++ frame (statusFrame c) .compare) .unit
  | deepPowerDown (out : List Byte) : JobShape c .deepPowerDown (frame out .ignore ++ [.desel]) .unit
  | resume (out : List Byte) : JobShape c .resume (frame out .ignore ++ [.desel, .sleep c.resumeDelayUs]) .unit
  | hardReset : JobShape c .hardReset [.rst true true, .sleep c.resetLowUs, .desel, .sleep c.resetSettleUs,
      .rst false false, .sleep c.resetRecoveryUs] (.bool true)
  | protection (out : List Byte) :
      JobShape c .protection (wait c ++ [.wp true] ++ frame out .ignore ++ [.desel, .wp false]) .unit

/-- A plan offers only jobs of kind `k`. -/
def PlanOf (k : Kind) (plan : Cfg → Regs → Option Job) : Prop :=
  ∀ c r j, plan c r = some j → kindOf j.op = k ∧ emitsEvents j.op = true ∧ JobShape c k j.todo j.value

theorem planOf_jobIf {k : Kind} {op : Instr} {v : Value} {legal : Cfg → Regs → Bool} {todo : Cfg → Regs → List Micro}
    (hk : kindOf op = k) (he : emitsEvents op = true) (hs : ∀ c r, JobShape c k (todo c r) v) :
    PlanOf k fun c r => jobIf (legal c r) op (todo c r) v := by
  intro c r j h
  simp only [jobIf] at h
  split at h
  · cases h; exact ⟨hk, he, hs c r⟩
  · cases h

theorem jobOfField_some {given field : Field} {j : Option Job} {j' : Job} (h : jobOfField given field j = some j') :
    given = field ∧ j = some j' := by
  simp only [jobOfField] at h
  split at h
  · exact ⟨‹_›, h⟩
  · cases h

theorem planOf_ofPageOffset {k : Kind} {job : Operand → Operand → Cfg → Regs → Option Job}
    (h : ∀ page offset, PlanOf k (job page offset)) (field : Field) : PlanOf k (ofPageOffset job field) :=
  fun _ _ _ hj => h _ _ _ _ _ (jobOfField_some hj).2

theorem planOf_ofBufferOffset {k : Kind} {job : Byte → Operand → Cfg → Regs → Option Job}
    (h : ∀ b offset, PlanOf k (job b offset)) (b : Byte) (field : Field) : PlanOf k (ofBufferOffset job b field) :=
  fun _ _ _ hj => h _ _ _ _ _ (jobOfField_some hj).2

theorem planOf_ofPage {k : Kind} {job : Operand → Cfg → Regs → Option Job} (h : ∀ page, PlanOf k (job page))
    (field : Field) : PlanOf k (ofPage job field) :=
  fun _ _ _ hj => h _ _ _ _ (jobOfField_some hj).2

theorem planOf_inMode {k : Kind} {job : Cfg → Regs → Option Job} (h : PlanOf k job) (m : EraseMode) :
    PlanOf k (inMode m job) := by
  intro c r j hj
  simp only [inMode] at hj
  split at hj
  · exact h c r j hj
  · cases hj

section plans
variable (page offset : Operand) (b : Byte)
theorem planOf_readStatus : PlanOf .readStatus readStatusJob := planOf_jobIf rfl rfl fun _ _ => .readStatus
theorem planOf_isReady : PlanOf .isReady isReadyJob := planOf_jobIf rfl rfl fun _ _ => .isReady
theorem planOf_waitUntilReady : PlanOf .waitUntilReady waitUntilReadyJob := planOf_jobIf rfl rfl fun _ _ => .waitUntilReady
theorem planOf_readId : PlanOf .readId readIdJob := planOf_jobIf rfl rfl fun _ _ => .readId
theorem planOf_pageRead : PlanOf .pageRead (pageReadJob page offset) := planOf_jobIf rfl rfl fun _ _ => .pageRead _
theorem planOf_arrayRead : PlanOf .arrayRead (arrayReadJob page offset) := planOf_jobIf rfl rfl fun _ _ => .arrayRead _
theorem planOf_bufferRead : PlanOf .bufferRead (bufferReadJob b offset) := planOf_jobIf rfl rfl fun _ _ => .bufferRead _
theorem planOf_bufferWrite : PlanOf .bufferWrite (bufferWriteJob b offset) :=
  planOf_jobIf rfl rfl fun _ _ => .bufferWrite _
theorem planOf_bufferToPage : PlanOf .bufferToPage (bufferToPageJob b page) :=
  planOf_jobIf rfl rfl fun _ _ => .bufferToPage _
theorem planOf_pageToBuffer : PlanOf .pageToBuffer (pageToBufferJob page b) :=
  planOf_jobIf rfl rfl fun _ _ => .pageToBuffer _
theorem planOf_pageErase : PlanOf .pageErase (pageEraseJob page) := planOf_jobIf rfl rfl fun _ _ => .pageErase _
theorem planOf_blockErase : PlanOf .blockErase (blockEraseJob page) := planOf_jobIf rfl rfl fun _ _ => .blockErase _
theorem planOf_sectorErase (sector : Sector) : PlanOf .sectorErase (sectorEraseJob sector) :=
  planOf_jobIf rfl rfl fun _ _ => .sectorErase _
theorem planOf_compare : PlanOf .compare (compareJob page b) := planOf_jobIf rfl rfl fun _ _ => .compare _
theorem planOf_deepPowerDown : PlanOf .deepPowerDown deepPowerDownJob := planOf_jobIf rfl rfl fun _ _ => .deepPowerDown _
theorem planOf_resume : PlanOf .resume resumeJob := planOf_jobIf rfl rfl fun _ _ => .resume _
theorem planOf_hardReset : PlanOf .hardReset hardResetJob := planOf_jobIf rfl rfl fun _ _ => .hardReset
theorem planOf_enable : PlanOf .protection enableProtectionJob := planOf_jobIf rfl rfl fun _ _ => .protection _
theorem planOf_disable : PlanOf .protection disableProtectionJob := planOf_jobIf rfl rfl fun _ _ => .protection _
theorem planOf_erase : PlanOf .protection eraseProtectionJob := planOf_jobIf rfl rfl fun _ _ => .protection _
end plans

/-- Everything a row can do. -/
inductive Executed (i : Instr) (s : State) : Prop
  /-- An operation is in progress. -/
  | busy (hs : s.seq ≠ .idle) (h : exec i s = .refused .requestWhileBusy)
  /-- Rejected before any event. -/
  | rejected (hs : s.seq = .idle) (h : exec i s = .next s.reject)
  /-- `end`. -/
  | ended (r : Regs) (hs : s.seq = .idle) (hr : s.handle = .ready r) (hi : i = .endOp)
      (h : exec i s = .next ((s.setHandle .uninitialized).respond (.ok .unit)))
  /-- `set_erase_mode`. -/
  | modeSet (r : Regs) (m : EraseMode) (hs : s.seq = .idle) (hr : s.handle = .ready r) (hi : i = .setEraseMode m)
      (h : exec i s = .next ((s.setHandle (.ready { r with eraseMode := m })).respond (.ok .unit)))
  /-- `setup` accepted. -/
  | setup (j : Job) (hs : s.seq = .idle) (hr : s.handle = .uninitialized) (hi : i = .setup) (hj : j.op = .setup)
      (hshape : JobShape s.cfg .setup j.todo j.value) (h : exec i s = .next (s.launch j))
  /-- Any other operation accepted. -/
  | accepted (r : Regs) (j : Job) (hs : s.seq = .idle) (hr : s.handle = .ready r) (hk : kindOf j.op = kindOf i)
      (he : emitsEvents j.op = true) (hns : kindOf i ≠ .setup) (hshape : JobShape s.cfg (kindOf i) j.todo j.value)
      (h : exec i s = .next (s.launch j))

theorem executed_of_plan {k : Kind} {plan : Cfg → Regs → Option Job} {i : Instr} {s : State} (hp : PlanOf k plan)
    (hk : kindOf i = k) (hns : k ≠ .setup) (hi : exec i s = whenReady plan s) : Executed i s := by
  subst hk
  rcases whenReady_cases (plan := plan) (s := s) with ⟨⟨op, n, todo, v, hs⟩, h⟩ | ⟨hs, h⟩ | ⟨r, j, hs, hr, hj, h⟩
  · exact .busy (by simp [hs]) (hi.trans h)
  · exact .rejected hs (hi.trans h)
  · obtain ⟨h1, h2, h3⟩ := hp _ _ _ hj
    exact .accepted r j hs hr h1 h2 hns h3 (hi.trans h)

theorem executed_of_reject {i : Instr} {s : State} (hi : exec i s = whenIdle State.reject s) : Executed i s := by
  cases hs : s.seq with
  | idle => exact .rejected hs (by rw [hi]; simp [whenIdle, hs])
  | run op n todo v => exact .busy (by simp [hs]) (by rw [hi]; simp [whenIdle, hs])

theorem executed_setup (s : State) : Executed .setup s := by
  have hi : exec .setup s = execSetup s := rfl
  cases hs : s.seq with
  | run op n todo v => exact .busy (by simp [hs]) (by rw [hi]; simp [execSetup, whenIdle, hs])
  | idle =>
    cases hr : s.handle with
    | uninitialized =>
      exact .setup ⟨.setup, frame (statusFrame s.cfg) .density, .unit⟩ hs hr rfl rfl .setup
        (by rw [hi]; simp [execSetup, whenIdle, hs, hr])
    | ready r => exact .rejected hs (by rw [hi]; simp [execSetup, whenIdle, hs, hr])
    | failed => exact .rejected hs (by rw [hi]; simp [execSetup, whenIdle, hs, hr])

theorem executed_endOp (s : State) : Executed .endOp s := by
  have hi : exec .endOp s = writeHandle (fun _ => .uninitialized) s := rfl
  cases hs : s.seq with
  | run op n todo v => exact .busy (by simp [hs]) (by rw [hi]; simp [writeHandle, whenIdle, hs])
  | idle =>
    cases hr : s.handle with
    | ready r => exact .ended r hs hr rfl (by rw [hi]; simp [writeHandle, whenIdle, hs, hr])
    | uninitialized => exact .rejected hs (by rw [hi]; simp [writeHandle, whenIdle, hs, hr])
    | failed => exact .rejected hs (by rw [hi]; simp [writeHandle, whenIdle, hs, hr])

theorem executed_setEraseMode (m : EraseMode) (s : State) : Executed (.setEraseMode m) s := by
  have hi : exec (.setEraseMode m) s = writeHandle (fun r => .ready { r with eraseMode := m }) s := rfl
  cases hs : s.seq with
  | run op n todo v => exact .busy (by simp [hs]) (by rw [hi]; simp [writeHandle, whenIdle, hs])
  | idle =>
    cases hr : s.handle with
    | ready r => exact .modeSet r m hs hr rfl (by rw [hi]; simp [writeHandle, whenIdle, hs, hr])
    | uninitialized => exact .rejected hs (by rw [hi]; simp [writeHandle, whenIdle, hs, hr])
    | failed => exact .rejected hs (by rw [hi]; simp [writeHandle, whenIdle, hs, hr])

/-- Everything a row can do, for every row. -/
theorem exec_cases (i : Instr) (s : State) : Executed i s := by
  have P : ∀ {k : Kind} {plan : Cfg → Regs → Option Job}, PlanOf k plan → kindOf i = k → k ≠ .setup →
      exec i s = whenReady plan s → Executed i s := executed_of_plan
  cases i with
  | setup => exact executed_setup s
  | endOp => exact executed_endOp s
  | setEraseMode m => exact executed_setEraseMode m s
  | reserved17 => exact executed_of_reject rfl
  | reserved18to1F low => exact executed_of_reject rfl
  | readStatus => exact P planOf_readStatus rfl (by simp) rfl
  | isReady => exact P planOf_isReady rfl (by simp) rfl
  | waitUntilReady => exact P planOf_waitUntilReady rfl (by simp) rfl
  | readId => exact P planOf_readId rfl (by simp) rfl
  | pageRead p o => exact P (planOf_pageRead p o) rfl (by simp) rfl
  | arrayRead p o => exact P (planOf_arrayRead p o) rfl (by simp) rfl
  | bufferRead b o => exact P (planOf_bufferRead o b) rfl (by simp) rfl
  | bufferWrite b o => exact P (planOf_bufferWrite o b) rfl (by simp) rfl
  | bufferToPage b p => exact P (planOf_bufferToPage p b) rfl (by simp) rfl
  | pageToBuffer p b => exact P (planOf_pageToBuffer p b) rfl (by simp) rfl
  | pageErase p => exact P (planOf_pageErase p) rfl (by simp) rfl
  | blockErase b => exact P (planOf_blockErase b) rfl (by simp) rfl
  | sectorErase x => exact P (planOf_sectorErase x) rfl (by simp) rfl
  | comparePageToBuffer p b => exact P (planOf_compare p b) rfl (by simp) rfl
  | deepPowerDown => exact P planOf_deepPowerDown rfl (by simp) rfl
  | resumeFromDeepPowerDown => exact P planOf_resume rfl (by simp) rfl
  | hardReset => exact P planOf_hardReset rfl (by simp) rfl
  | enableSectorProtection => exact P planOf_enable rfl (by simp) rfl
  | disableSectorProtection => exact P planOf_disable rfl (by simp) rfl
  | eraseProtectionRegister => exact P planOf_erase rfl (by simp) rfl
  | statusReadFrame => exact P planOf_readStatus rfl (by simp) rfl
  | idReadFrame => exact P planOf_readId rfl (by simp) rfl
  | pageReadFrame f => exact P (planOf_ofPageOffset planOf_pageRead f) rfl (by simp) rfl
  | arrayReadFrame f => exact P (planOf_ofPageOffset planOf_arrayRead f) rfl (by simp) rfl
  | buffer1ReadFrame f => exact P (planOf_ofBufferOffset (fun b o => planOf_bufferRead o b) 0 f) rfl (by simp) rfl
  | buffer2ReadFrame f => exact P (planOf_ofBufferOffset (fun b o => planOf_bufferRead o b) 1 f) rfl (by simp) rfl
  | buffer1WriteFrame f => exact P (planOf_ofBufferOffset (fun b o => planOf_bufferWrite o b) 0 f) rfl (by simp) rfl
  | buffer2WriteFrame f => exact P (planOf_ofBufferOffset (fun b o => planOf_bufferWrite o b) 1 f) rfl (by simp) rfl
  | buffer1ToPageWithEraseFrame f =>
    exact P (planOf_inMode (planOf_ofPage (fun p => planOf_bufferToPage p 0) f) .auto) rfl (by simp) rfl
  | buffer2ToPageWithEraseFrame f =>
    exact P (planOf_inMode (planOf_ofPage (fun p => planOf_bufferToPage p 1) f) .auto) rfl (by simp) rfl
  | buffer1ToPageWithoutEraseFrame f =>
    exact P (planOf_inMode (planOf_ofPage (fun p => planOf_bufferToPage p 0) f) .manual) rfl (by simp) rfl
  | buffer2ToPageWithoutEraseFrame f =>
    exact P (planOf_inMode (planOf_ofPage (fun p => planOf_bufferToPage p 1) f) .manual) rfl (by simp) rfl
  | pageToBuffer1Frame f => exact P (planOf_ofPage (fun p => planOf_pageToBuffer p 0) f) rfl (by simp) rfl
  | pageToBuffer2Frame f => exact P (planOf_ofPage (fun p => planOf_pageToBuffer p 1) f) rfl (by simp) rfl
  | pageEraseFrame f => exact P (planOf_ofPage planOf_pageErase f) rfl (by simp) rfl
  | blockEraseFrame f =>
    exact P (plan := fun c r => jobOfField f (blockField r.bits (blockOfField r.bits f)) (blockEraseJob (blockOfField r.bits f) c r))
      (fun _ _ _ hj => planOf_blockErase _ _ _ _ (jobOfField_some hj).2) rfl (by simp) rfl
  | sectorEraseFrame f =>
    exact P (plan := fun c r => jobOfField f (sectorField r.bits (sectorOfField r.bits f)) (sectorEraseJob (sectorOfField r.bits f) c r))
      (fun _ _ _ hj => planOf_sectorErase _ _ _ _ (jobOfField_some hj).2) rfl (by simp) rfl
  | comparePageToBuffer1Frame f => exact P (planOf_ofPage (fun p => planOf_compare p 0) f) rfl (by simp) rfl
  | comparePageToBuffer2Frame f => exact P (planOf_ofPage (fun p => planOf_compare p 1) f) rfl (by simp) rfl
  | deepPowerDownFrame => exact P planOf_deepPowerDown rfl (by simp) rfl
  | resumeFromDeepPowerDownFrame => exact P planOf_resume rfl (by simp) rfl
  | enableSectorProtectionFrame => exact P planOf_enable rfl (by simp) rfl
  | disableSectorProtectionFrame => exact P planOf_disable rfl (by simp) rfl
  | eraseProtectionRegisterFrame => exact P planOf_erase rfl (by simp) rfl

end Sys2Proof.Machine
end

