-- ==== Sys2Proof/Laws/PerInstr.lean ====
section
/-! SUPPORT. Statements made of every instruction as syntax, one lemma per constructor. Family `FrameShape`: what the
encoder writes has its format's shape (spec/30_encoding.md R93, R97, R105, R110). -/

namespace Sys2Proof.Laws.FrameShape

open Sys2Proof.Machine

/-- Whatever the `cfg`: a request row is written as a request record that decodes to it, a frame row as a frame of the
length of its format. -/
def Statement (i : Instr) : Prop :=
  ∀ c : Cfg, match encode c i with
    | .request r => decodeRequest r = i
    | .frame bytes => bytes.length = (kindOf i).frameLength c

theorem plainFrame_length (b : Byte) (n : Nat) : (plainFrame b n).length = 1 + n := by
  simp [plainFrame, zeros, Nat.add_comm]

theorem addressFrame_length (b : Byte) (f : Field) (n : Nat) : (addressFrame b f n).length = 4 + n := by
  simp +arith [addressFrame, bytes3, zeros]

theorem magicFrame_length (m : Magic) (n : Nat) : (magicFrame m n).length = 4 + n := by
  simp +arith [magicFrame, Magic.bytes, zeros]

theorem setup : Statement (.setup) := fun _ => rfl
theorem endOp : Statement (.endOp) := fun _ => rfl
theorem setEraseMode (mode : EraseMode) : Statement (.setEraseMode mode) := fun _ => by cases mode <;> rfl
theorem readStatus : Statement (.readStatus) := fun _ => rfl
theorem isReady : Statement (.isReady) := fun _ => rfl
theorem waitUntilReady : Statement (.waitUntilReady) := fun _ => rfl
theorem readId : Statement (.readId) := fun _ => rfl
theorem pageRead (page : Operand) (offset : Operand) : Statement (.pageRead page offset) := fun _ => rfl
theorem arrayRead (page : Operand) (offset : Operand) : Statement (.arrayRead page offset) := fun _ => rfl
theorem bufferRead (bufferNum : Byte) (offset : Operand) : Statement (.bufferRead bufferNum offset) := fun _ => rfl
theorem bufferWrite (bufferNum : Byte) (offset : Operand) : Statement (.bufferWrite bufferNum offset) := fun _ => rfl
theorem bufferToPage (bufferNum : Byte) (page : Operand) : Statement (.bufferToPage bufferNum page) := fun _ => rfl
theorem pageToBuffer (page : Operand) (bufferNum : Byte) : Statement (.pageToBuffer page bufferNum) := fun _ => rfl
theorem pageErase (page : Operand) : Statement (.pageErase page) := fun _ => rfl
theorem blockErase (block : Operand) : Statement (.blockErase block) := fun _ => rfl
theorem sectorErase (sector : Sector) : Statement (.sectorErase sector) := fun _ => by cases sector <;> rfl
theorem comparePageToBuffer (page : Operand) (bufferNum : Byte) : Statement (.comparePageToBuffer page bufferNum) := fun _ => rfl
theorem deepPowerDown : Statement (.deepPowerDown) := fun _ => rfl
theorem resumeFromDeepPowerDown : Statement (.resumeFromDeepPowerDown) := fun _ => rfl
theorem hardReset : Statement (.hardReset) := fun _ => rfl
theorem enableSectorProtection : Statement (.enableSectorProtection) := fun _ => rfl
theorem disableSectorProtection : Statement (.disableSectorProtection) := fun _ => rfl
theorem eraseProtectionRegister : Statement (.eraseProtectionRegister) := fun _ => rfl
theorem reserved17 : Statement (.reserved17) := fun _ => rfl
theorem reserved18to1F (low : BitVec 3) : Statement (.reserved18to1F low) :=
  fun _ => show decodeRequest (bareRequest (0b11#2 ++ low)) = .reserved18to1F low by decide +revert

theorem statusReadFrame : Statement (.statusReadFrame) := fun _ => plainFrame_length _ _
theorem idReadFrame : Statement (.idReadFrame) := fun _ => plainFrame_length _ _
theorem pageReadFrame (field : Field) : Statement (.pageReadFrame field) := fun _ => addressFrame_length _ field _
theorem arrayReadFrame (field : Field) : Statement (.arrayReadFrame field) := fun _ => addressFrame_length _ field _
theorem buffer1ReadFrame (field : Field) : Statement (.buffer1ReadFrame field) := fun _ => addressFrame_length _ field _
theorem buffer2ReadFrame (field : Field) : Statement (.buffer2ReadFrame field) := fun _ => addressFrame_length _ field _
theorem buffer1WriteFrame (field : Field) : Statement (.buffer1WriteFrame field) := fun _ => addressFrame_length _ field _
theorem buffer2WriteFrame (field : Field) : Statement (.buffer2WriteFrame field) := fun _ => addressFrame_length _ field _
theorem buffer1ToPageWithEraseFrame (field : Field) : Statement (.buffer1ToPageWithEraseFrame field) := fun _ => addressFrame_length _ field _
theorem buffer2ToPageWithEraseFrame (field : Field) : Statement (.buffer2ToPageWithEraseFrame field) := fun _ => addressFrame_length _ field _
theorem buffer1ToPageWithoutEraseFrame (field : Field) : Statement (.buffer1ToPageWithoutEraseFrame field) := fun _ => addressFrame_length _ field _
theorem buffer2ToPageWithoutEraseFrame (field : Field) : Statement (.buffer2ToPageWithoutEraseFrame field) := fun _ => addressFrame_length _ field _
theorem pageToBuffer1Frame (field : Field) : Statement (.pageToBuffer1Frame field) := fun _ => addressFrame_length _ field _
theorem pageToBuffer2Frame (field : Field) : Statement (.pageToBuffer2Frame field) := fun _ => addressFrame_length _ field _
theorem pageEraseFrame (field : Field) : Statement (.pageEraseFrame field) := fun _ => addressFrame_length _ field _
theorem blockEraseFrame (field : Field) : Statement (.blockEraseFrame field) := fun _ => addressFrame_length _ field _
theorem sectorEraseFrame (field : Field) : Statement (.sectorEraseFrame field) := fun _ => addressFrame_length _ field _
theorem comparePageToBuffer1Frame (field : Field) : Statement (.comparePageToBuffer1Frame field) := fun _ => addressFrame_length _ field _
theorem comparePageToBuffer2Frame (field : Field) : Statement (.comparePageToBuffer2Frame field) := fun _ => addressFrame_length _ field _
theorem deepPowerDownFrame : Statement (.deepPowerDownFrame) := fun _ => plainFrame_length _ _
theorem resumeFromDeepPowerDownFrame : Statement (.resumeFromDeepPowerDownFrame) := fun _ => plainFrame_length _ _
theorem enableSectorProtectionFrame : Statement (.enableSectorProtectionFrame) := fun _ => magicFrame_length _ _
theorem disableSectorProtectionFrame : Statement (.disableSectorProtectionFrame) := fun _ => magicFrame_length _ _
theorem eraseProtectionRegisterFrame : Statement (.eraseProtectionRegisterFrame) := fun _ => magicFrame_length _ _

end Sys2Proof.Laws.FrameShape
end

