-- ==== Sys2Proof/Tests/Slice0.lean ====
section
/-! SUPPORT. The model's own tests: the well-formedness checks, one word per constructor written out from the encoding
tables, the vectors of spec/95_test_vectors.md one step at a time, and for every statement that has hypotheses a state
and operands that meet them. -/

namespace Sys2Proof.Tests
open Sys2Proof.Machine

/-! ## Helpers -/

/-- A line answer `ok`, with a pin. -/
def yes : Answer := ⟨true, [], true⟩

/-- The answer `fail`, without a pin. -/
def no : Answer := ⟨false, [], false⟩

/-- A frame answered with these bytes. -/
def reply (bytes : List Byte) : Reply := ⟨yes, yes, ⟨true, bytes, true⟩⟩

/-- A status frame answered with status byte `b`. -/
def status (b : Byte) : Reply := reply [0, b]

/-- Registers with these widths and mode, and the ID of vector V60. -/
def regs (index : BitVec 3) (bits : AddressBits) (m : EraseMode) : Regs := ⟨0x1F, 0x26, 0x00, 0x00, index, bits, m⟩

/-- The handle of example E1. -/
def e1 : Regs := regs 4 ⟨10, 12, 4⟩ .auto

/-- The same in `Manual`. -/
def e1Manual : Regs := regs 4 ⟨10, 12, 4⟩ .manual

/-- Phase `Ready` with the answers to come. -/
def readyAs (r : Regs) (as : List Answer) : State := { State.reset with handle := .ready r, answers := as }

/-- Phase `Ready` with the handle of E1. -/
def ready (as : List Answer) : State := readyAs e1 as

/-- Phase `Uninitialized` with the answers to come. -/
def fresh (as : List Answer) : State := { State.reset with answers := as }

/-- The same under a poll budget. -/
def budgeted (n : Nat) (s : State) : State := { s with cfg := { Config.default with pollBudget := some n } }

/-- The response and the events of a next state. -/
def result (o : Outcome) : Option (Option Response × List Event) :=
  match o with
  | .next t => some (t.response, t.trace)
  | .fault _ => none
  | .refused _ => none

/-- The handle of a next state. -/
def handleAfter (o : Outcome) : Option Handle :=
  match o with
  | .next t => some t.handle
  | .fault _ => none
  | .refused _ => none

/-- `Ok(unit)` after these events. -/
def okAfter (es : List Event) : Option (Option Response × List Event) := some (some (.ok .unit), es)

/-- A rejection: `Err(PreconditionViolation)` and no event. -/
def rejection : Option (Option Response × List Event) := some (some (.err .preconditionViolation), [])

/-- The answers of the one poll of a wait, chip ready (`POLL` of the vectors). -/
def pollReady : List Answer := (status 0xAC).answers

/-- The events of that poll. -/
def pollSeen : List Event := (status 0xAC).events [0xD7, 0x00]

/-- Four bytes back. -/
def four : Reply := reply (zeros 4)

/-! ## Well-formedness (R244, R245): one ill-formed term for each check, and its legal neighbours -/

theorem test_wf_buffer_number : Instr.wellFormed (.bufferRead 2 0) = false ∧ Instr.wellFormed (.bufferRead 1 0) = true := by
  decide
theorem test_wf_buffer_write : Instr.wellFormed (.bufferWrite 255 0) = false := by decide
theorem test_wf_buffer_to_page : Instr.wellFormed (.bufferToPage 2 0) = false := by decide
theorem test_wf_page_to_buffer : Instr.wellFormed (.pageToBuffer 0 2) = false := by decide
theorem test_wf_compare : Instr.wellFormed (.comparePageToBuffer 0 2) = false := by decide
theorem test_wf_sector_zero : Instr.wellFormed (.sectorErase (.sn 0)) = false ∧ Instr.wellFormed (.sectorErase (.sn 1)) = true := by
  decide
theorem test_wf_sector_kind : Instr.wellFormed (.sectorErase .illegal) = false := by decide
theorem test_wf_reserved17 : Instr.wellFormed .reserved17 = false := by decide
theorem test_wf_reserved18 : Instr.wellFormed (.reserved18to1F 7) = false := by decide

/-! ## Well-formedness of cfg (R10, R11): one ill-formed cfg for each condition -/

theorem test_cfg_default : cfgWellFormed Config.default = true := by decide
theorem test_cfg_row : cfgWellFormed { Config.default with geom := Config.defaultGeom.set 6 ⟨12, 13, 5⟩ } = false := by decide
theorem test_cfg_row_sector : rowWellFormed ⟨10, 12, 9⟩ = false ∧ rowWellFormed ⟨10, 12, 8⟩ = true := by decide
theorem test_cfg_opcodes :
    cfgWellFormed { Config.default with opc := { Config.defaultOpcodes with pageErase := 0xD7 } } = false := by decide
theorem test_cfg_sequences :
    cfgWellFormed { Config.default with
      opc := { Config.defaultOpcodes with disableSectorProtection := ⟨0x3D, 0x2A, 0x7F, 0xA9⟩ } } = false := by decide
theorem test_cfg_budget : cfgWellFormed { Config.default with pollBudget := some 0 } = false := by decide

/-- Other pad counts are no fault of a cfg (R11, decision D9), and the frames carry them (R90, R94). -/
def padded : Cfg :=
  { Config.default with dummy := { Config.defaultDummy with status := 2, bufferWrite := 1, protection := 1 } }

theorem test_cfg_pads :
    cfgWellFormed padded = true ∧ encode padded .statusReadFrame = .frame [0xD7, 0, 0]
    ∧ encode padded (.buffer1WriteFrame 0x0003FF) = .frame [0x84, 0x00, 0x03, 0xFF, 0]
    ∧ decodeFrame padded [0x3D, 0x2A, 0x7F, 0x9A, 0] = .ok .disableSectorProtectionFrame
    ∧ decodeFrame padded [0xD7, 0] = .error (.wrongTail 0xD7) := by decide

/-! ## Decoding: for every constructor a word written out from R93, R95, R100 (frames) and R110, R111 (requests) -/

theorem test_word_status_and_id :
    decodeTableWord 16 0xD700 = some .statusReadFrame ∧ decodeTableWord 40 0x9F00000000 = some .idReadFrame := by decide
theorem test_word_page_read : decodeTableWord 64 0xD201903200000000 = some (.pageReadFrame 0x019032) := by decide
theorem test_word_array_read : decodeTableWord 40 0x0B01903200 = some (.arrayReadFrame 0x019032) := by decide
theorem test_word_buffer_reads :
    decodeTableWord 40 0xD40003FF00 = some (.buffer1ReadFrame 0x0003FF)
    ∧ decodeTableWord 40 0xD600012300 = some (.buffer2ReadFrame 0x000123) := by decide
theorem test_word_buffer_writes :
    decodeTableWord 32 0x84000001 = some (.buffer1WriteFrame 0x000001)
    ∧ decodeTableWord 32 0x870003FF = some (.buffer2WriteFrame 0x0003FF) := by decide
theorem test_word_buffer_to_page :
    decodeTableWord 32 0x83001400 = some (.buffer1ToPageWithEraseFrame 0x001400)
    ∧ decodeTableWord 32 0x86001400 = some (.buffer2ToPageWithEraseFrame 0x001400)
    ∧ decodeTableWord 32 0x88001400 = some (.buffer1ToPageWithoutEraseFrame 0x001400)
    ∧ decodeTableWord 32 0x89001400 = some (.buffer2ToPageWithoutEraseFrame 0x001400) := by decide
theorem test_word_page_to_buffer :
    decodeTableWord 32 0x53001400 = some (.pageToBuffer1Frame 0x001400)
    ∧ decodeTableWord 32 0x553FFC00 = some (.pageToBuffer2Frame 0x3FFC00) := by decide
theorem test_word_erases :
    decodeTableWord 32 0x81001400 = some (.pageEraseFrame 0x001400)
    ∧ decodeTableWord 32 0x503FE000 = some (.blockEraseFrame 0x3FE000)
    ∧ decodeTableWord 32 0x7C3C0000 = some (.sectorEraseFrame 0x3C0000) := by decide
theorem test_word_compares :
    decodeTableWord 32 0x60001400 = some (.comparePageToBuffer1Frame 0x001400)
    ∧ decodeTableWord 32 0x61001400 = some (.comparePageToBuffer2Frame 0x001400) := by decide
theorem test_word_power :
    decodeTableWord 8 0xB9 = some .deepPowerDownFrame ∧ decodeTableWord 8 0xAB = some .resumeFromDeepPowerDownFrame := by
  decide
theorem test_word_protection :
    decodeTableWord 32 0x3D2A7FA9 = some .enableSectorProtectionFrame
    ∧ decodeTableWord 32 0x3D2A7F9A = some .disableSectorProtectionFrame
    ∧ decodeTableWord 32 0x3D2A7FCF = some .eraseProtectionRegisterFrame := by decide
/-- A word shorter than its frame is continued with zero bytes. -/
theorem test_word_short : decodeTableWord 8 0x50 = some (.blockEraseFrame 0) ∧ decodeTableWord 8 0xD7 = some .statusReadFrame := by
  decide
/-- Bytes that are no DFCE frame are rejected by name (R104). -/
theorem test_not_a_frame :
    decodeFrame Config.default [0x00] = .error (.unknownOpcode 0x00)
    ∧ decodeFrame Config.default [0xD7, 0x01] = .error (.wrongTail 0xD7)
    ∧ decodeFrame Config.default [0x50, 0x00, 0x00] = .error (.wrongTail 0x50)
    ∧ decodeFrame Config.default [0x3D, 0x2A, 0x7F, 0x00] = .error .unknownSequence
    ∧ decodeFrame Config.default [] = .error .empty := by decide

/-- A request with code `op` and every operand field different: each operation must read its own (R111). -/
def request (op : BitVec 5) : Request := ⟨op, 0x0102, 0x0304, 0x0506, 0x07, 0, 0x08, 1⟩

theorem test_request_plain :
    [0x00, 0x01, 0x03, 0x04, 0x05, 0x06, 0x11, 0x12, 0x13, 0x14, 0x15, 0x16, 0x17].map (fun op => decodeRequest (request op))
    = [.setup, .endOp, .readStatus, .isReady, .waitUntilReady, .readId, .deepPowerDown, .resumeFromDeepPowerDown,
       .hardReset, .enableSectorProtection, .disableSectorProtection, .eraseProtectionRegister, .reserved17] := by decide
theorem test_request_mode :
    decodeRequest (request 0x02) = .setEraseMode .manual
    ∧ decodeRequest { request 0x02 with mode := 0 } = .setEraseMode .auto := by decide
theorem test_request_page_offset :
    decodeRequest (request 0x07) = .pageRead 0x0102 0x0304 ∧ decodeRequest (request 0x08) = .arrayRead 0x0102 0x0304 := by
  decide
theorem test_request_buffer_offset :
    decodeRequest (request 0x09) = .bufferRead 0x07 0x0304 ∧ decodeRequest (request 0x0A) = .bufferWrite 0x07 0x0304 := by
  decide
theorem test_request_buffer_page :
    decodeRequest (request 0x0B) = .bufferToPage 0x07 0x0102 ∧ decodeRequest (request 0x0C) = .pageToBuffer 0x0102 0x07
    ∧ decodeRequest (request 0x10) = .comparePageToBuffer 0x0102 0x07 := by decide
theorem test_request_erases :
    decodeRequest (request 0x0D) = .pageErase 0x0102 ∧ decodeRequest (request 0x0E) = .blockErase 0x0506 := by decide
theorem test_request_sector :
    decodeRequest (request 0x0F) = .sectorErase (.sn 8)
    ∧ decodeRequest { request 0x0F with sectorKind := 1 } = .sectorErase .s0A
    ∧ decodeRequest { request 0x0F with sectorKind := 2 } = .sectorErase .s0B
    ∧ decodeRequest { request 0x0F with sectorKind := 3 } = .sectorErase .illegal := by decide
theorem test_request_reserved :
    decodeRequest (request 0x18) = .reserved18to1F 0 ∧ decodeRequest (request 0x1F) = .reserved18to1F 7 := by decide

/-! ## The pure functions (tables T1, T2, T3, T5) -/

theorem test_density_default :
    [0x2C, 0xAC, 0x28, 0x0C, 0x10, 0x1C, 0x24, 0x34, 0xBC, 0xFF, 0x04, 0x80].map (densityIndex .mask38Shift3)
    = [some 4, some 4, some 4, some 0, some 1, some 2, some 3, some 5, some 6, some 6, none, none] := by decide
theorem test_density_other :
    [0x2C, 0x0C, 0x08, 0x14, 0x1C, 0x20, 0x00, 0x04, 0x87].map (densityIndex .mask3CShift2)
    = [none, some 2, some 1, some 4, some 6, none, none, some 0, some 0] := by decide
theorem test_geometry :
    geometryFor Config.defaultGeom 4 false = some ⟨10, 12, 4⟩ ∧ geometryFor Config.defaultGeom 4 true = some ⟨9, 12, 4⟩
    ∧ geometryFor Config.defaultGeom 6 true = some ⟨10, 13, 5⟩ ∧ geometryFor Config.defaultGeom 7 false = none := by decide
theorem test_page_address :
    encodePageAddress 100 10 = (0x01, 0x90) ∧ encodePageAddress 65535 8 = (0xFF, 0xFF)
    ∧ encodePageAddress 8191 11 = (0xFF, 0xF8) := by decide
theorem test_page_field :
    bytes3 (pageField ⟨11, 13, 5⟩ 8191 2047) = [0xFF, 0xFF, 0xFF]
    ∧ bytes3 (pageField ⟨9, 12, 4⟩ 5 511) = [0x00, 0x0B, 0xFF] := by decide
theorem test_block_field :
    bytes3 (blockField ⟨11, 13, 5⟩ 1023) = [0xFF, 0xC0, 0x00] ∧ bytes3 (blockField ⟨10, 12, 4⟩ 511) = [0x3F, 0xE0, 0x00] := by
  decide
theorem test_sector_field :
    bytes3 (sectorField ⟨10, 12, 4⟩ .s0B) = [0x00, 0x20, 0x00] ∧ bytes3 (sectorField ⟨10, 12, 4⟩ (.sn 1)) = [0x04, 0x00, 0x00]
    ∧ bytes3 (sectorField ⟨10, 13, 6⟩ (.sn 63)) = [0x7E, 0x00, 0x00] := by decide
/-- The layout of the status byte (E6). -/
theorem test_status_bits :
    [rdy 0xEE, comp 0xEE, prot 0xEE, psize 0xEE] = [true, true, true, false] ∧ dens 0xEE = 0b1011
    ∧ [rdy 0x2C, comp 0x2C, prot 0x2C, psize 0x2C] = [false, false, false, false] ∧ psize 0xAD = true := by decide

/-- The fields of a response (R112, R240). -/
theorem test_response_fields :
    [ErrorKind.setupFailure, .transportFailure, .preconditionViolation, .timeout].map (fun e => (Response.err e).kind) = [1, 2, 3, 4]
    ∧ (Response.ok .unit).kind = 0 ∧ (Response.ok (.bool true)).value = some [1]
    ∧ (Response.ok (.id 1 2 3 4)).value = some [1, 2, 3, 4] ∧ (Response.err .timeout).value = none := by decide

/-! ## One step of every row, by the vectors of sections 2.4 to 2.7 -/

theorem test_V60_setup :
    result (exec .setup (fresh ((status 0x2C).answers ++ (reply [0, 0x1F, 0x26, 0, 0]).answers)))
      = okAfter ((status 0x2C).events [0xD7, 0] ++ (reply [0, 0x1F, 0x26, 0, 0]).events [0x9F, 0, 0, 0, 0])
    ∧ handleAfter (exec .setup (fresh ((status 0x2C).answers ++ (reply [0, 0x1F, 0x26, 0, 0]).answers)))
      = some (.ready e1) := by decide
theorem test_V62_setup_unsupported :
    result (exec .setup (fresh (status 0x04).answers)) = some (some (.err .setupFailure), (status 0x04).events [0xD7, 0])
    ∧ handleAfter (exec .setup (fresh (status 0x04).answers)) = some .failed := by decide
theorem test_V66_end : handleAfter (exec .endOp (ready [])) = some .uninitialized ∧ result (exec .endOp (ready [])) = okAfter [] := by
  decide
theorem test_V67_set_erase_mode :
    handleAfter (exec (.setEraseMode .manual) (ready [])) = some (.ready e1Manual)
    ∧ result (exec (.setEraseMode .manual) (ready [])) = okAfter [] := by decide
theorem test_V1_read_status :
    result (exec .readStatus (ready (status 0xAC).answers))
      = some (some (.ok (.status 0xAC)), (status 0xAC).events [0xD7, 0]) := by decide
/-- Under other pad counts the frame is longer, as many bytes come back, and `in[1]` is still the status byte. -/
theorem test_read_status_padded :
    result (exec .readStatus { ready (reply [0x11, 0xAC, 0x22, 0x33]).answers with cfg := padded })
      = some (some (.ok (.status 0xAC)), [.desel true, .sel true, .xchg [0xD7, 0, 0] (some [0x11, 0xAC, 0x22])]) := by decide
theorem test_V13_read_status_sel_fails :
    result (exec .readStatus (ready [yes, no])) = some (some (.err .transportFailure), [.desel true, .sel false]) := by decide
theorem test_V3_V4_is_ready :
    result (exec .isReady (ready (status 0x7F).answers)) = some (some (.ok (.bool false)), (status 0x7F).events [0xD7, 0])
    ∧ result (exec .isReady (ready (status 0x80).answers)) = some (some (.ok (.bool true)), (status 0x80).events [0xD7, 0]) := by
  decide
theorem test_V6_wait :
    result (exec .waitUntilReady (ready (pollAnswers [status 0x2C, status 0x6C, status 0xAC])))
      = okAfter (pollEvents Config.default [status 0x2C, status 0x6C, status 0xAC]) := by decide
theorem test_V7_wait_times_out :
    result (exec .waitUntilReady (budgeted 2 (ready (pollAnswers [status 0x2C, status 0x2C, status 0xAC]))))
      = some (some (.err .timeout), pollEvents Config.default [status 0x2C, status 0x2C]) := by decide
theorem test_V15_read_id :
    result (exec .readId (ready (reply [0, 1, 2, 3, 4]).answers))
      = some (some (.ok (.id 1 2 3 4)), (reply [0, 1, 2, 3, 4]).events [0x9F, 0, 0, 0, 0]) := by decide
theorem test_V20_page_read :
    result (exec (.pageRead 100 50) (ready (reply (zeros 8)).answers))
      = okAfter ((reply (zeros 8)).events [0xD2, 0x01, 0x90, 0x32, 0, 0, 0, 0]) := by decide
theorem test_V22_V23_page_read_range :
    result (exec (.pageRead 4096 0) (ready [])) = rejection ∧ result (exec (.pageRead 0 1024) (ready [])) = rejection := by
  decide
theorem test_V25_array_read :
    result (exec (.arrayRead 100 50) (ready (reply (zeros 5)).answers))
      = okAfter ((reply (zeros 5)).events [0x0B, 0x01, 0x90, 0x32, 0]) := by decide
theorem test_V26_buffer_read :
    result (exec (.bufferRead 1 0x123) (ready (pollReady ++ (reply (zeros 5)).answers)))
      = okAfter (pollSeen ++ (reply (zeros 5)).events [0xD6, 0x00, 0x01, 0x23, 0]) := by decide
theorem test_V28_buffer_read_range : result (exec (.bufferRead 2 0) (ready pollReady)) = rejection := by decide
theorem test_V30_buffer_write :
    result (exec (.bufferWrite 1 1023) (ready (pollReady ++ four.answers)))
      = okAfter (pollSeen ++ four.events [0x87, 0x00, 0x03, 0xFF]) := by decide
theorem test_V32_V33_buffer_to_page :
    result (exec (.bufferToPage 0 5) (ready (four.answers ++ [yes, yes])))
      = okAfter (four.events [0x83, 0x00, 0x14, 0x00] ++ startEvents)
    ∧ result (exec (.bufferToPage 0 5) (readyAs e1Manual (four.answers ++ [yes, yes])))
      = okAfter (four.events [0x88, 0x00, 0x14, 0x00] ++ startEvents) := by decide
theorem test_V49_start_fails :
    result (exec (.bufferToPage 0 5) (ready (four.answers ++ [no])))
      = some (some (.err .transportFailure), four.events [0x83, 0x00, 0x14, 0x00] ++ [.desel false]) := by decide
theorem test_V37_page_to_buffer :
    result (exec (.pageToBuffer 4095 1) (ready (four.answers ++ [yes, yes])))
      = okAfter (four.events [0x55, 0x3F, 0xFC, 0x00] ++ startEvents) := by decide
theorem test_V39_page_erase :
    result (exec (.pageErase 5) (ready (pollReady ++ four.answers ++ [yes, yes])))
      = okAfter (pollSeen ++ four.events [0x81, 0x00, 0x14, 0x00] ++ startEvents) := by decide
theorem test_V41_V42_block_erase :
    result (exec (.blockErase 511) (ready (pollReady ++ four.answers ++ [yes, yes])))
      = okAfter (pollSeen ++ four.events [0x50, 0x3F, 0xE0, 0x00] ++ startEvents)
    ∧ result (exec (.blockErase 512) (ready [])) = rejection := by decide
theorem test_V44_V46_sector_erase :
    result (exec (.sectorErase .s0B) (ready (pollReady ++ four.answers ++ [yes, yes])))
      = okAfter (pollSeen ++ four.events [0x7C, 0x00, 0x20, 0x00] ++ startEvents)
    ∧ result (exec (.sectorErase (.sn 15)) (ready (pollReady ++ four.answers ++ [yes, yes])))
      = okAfter (pollSeen ++ four.events [0x7C, 0x3C, 0x00, 0x00] ++ startEvents) := by decide
theorem test_V47_sector_erase_range :
    result (exec (.sectorErase (.sn 16)) (ready [])) = rejection ∧ result (exec (.sectorErase (.sn 0)) (ready [])) = rejection
    ∧ result (exec (.sectorErase .illegal) (ready [])) = rejection := by decide
/-- T8, third row: the byte that ended the wait had bit 6 set; only the re-read counts. -/
theorem test_T8_compare_true :
    result (exec (.comparePageToBuffer 5 0)
        (ready (four.answers ++ [yes, yes] ++ (status 0xEC).answers ++ (status 0xAC).answers)))
      = some (some (.ok (.bool true)), four.events [0x60, 0x00, 0x14, 0x00] ++ startEvents ++ (status 0xEC).events [0xD7, 0]
          ++ (status 0xAC).events [0xD7, 0]) := by decide
/-- T8, fourth row. -/
theorem test_T8_compare_false :
    result (exec (.comparePageToBuffer 5 0)
        (ready (four.answers ++ [yes, yes] ++ (status 0x2C).answers ++ pollReady ++ (status 0xEC).answers)))
      = some (some (.ok (.bool false)), four.events [0x60, 0x00, 0x14, 0x00] ++ startEvents ++ (status 0x2C).events [0xD7, 0]
          ++ pollSeen ++ (status 0xEC).events [0xD7, 0]) := by decide
theorem test_V68_deep_power_down :
    result (exec .deepPowerDown (ready ((reply [0]).answers ++ [yes])))
      = okAfter ((reply [0]).events [0xB9] ++ [.desel true]) := by decide
theorem test_V69_resume :
    result (exec .resumeFromDeepPowerDown (ready ((reply [0]).answers ++ [yes])))
      = okAfter ((reply [0]).events [0xAB] ++ [.desel true, .sleep 40]) := by decide
theorem test_V71_hard_reset :
    result (exec .hardReset (ready [yes, yes, yes]))
      = some (some (.ok (.bool true)), [.rst true true, .sleep 10, .desel true, .sleep 1, .rst false true, .sleep 1]) := by
  decide
theorem test_V72_V73_hard_reset :
    result (exec .hardReset (ready [no])) = some (some (.ok (.bool false)), [.rst true false])
    ∧ result (exec .hardReset (ready [yes, no]))
      = some (some (.err .transportFailure), [.rst true true, .sleep 10, .desel false]) := by decide
theorem test_V74_enable_protection :
    result (exec .enableSectorProtection (ready (pollReady ++ [yes] ++ four.answers ++ [yes, yes])))
      = okAfter (pollSeen ++ [.wp true true] ++ four.events [0x3D, 0x2A, 0x7F, 0xA9] ++ [.desel true, .wp false true]) := by
  decide
theorem test_V75_disable_protection :
    result (exec .disableSectorProtection (ready (pollReady ++ [no] ++ four.answers ++ [yes, no])))
      = okAfter (pollSeen ++ [.wp true false] ++ four.events [0x3D, 0x2A, 0x7F, 0x9A] ++ [.desel true, .wp false false]) := by
  decide
theorem test_V76_erase_protection :
    result (exec .eraseProtectionRegister
        (ready ((status 0x2C).answers ++ pollReady ++ [yes] ++ four.answers ++ [yes, yes])))
      = okAfter ((status 0x2C).events [0xD7, 0] ++ pollSeen ++ [.wp true true] ++ four.events [0x3D, 0x2A, 0x7F, 0xCF]
          ++ [.desel true, .wp false true]) := by decide
theorem test_V78_reserved : result (exec .reserved17 (fresh [])) = rejection ∧ result (exec (.reserved18to1F 7) (ready [])) = rejection := by
  decide
/-- V65: in `Failed` every operation is rejected. -/
theorem test_V65_failed :
    result (exec .readStatus { State.reset with handle := .failed }) = rejection
    ∧ handleAfter (exec .setup { State.reset with handle := .failed }) = some .failed := by decide

/-! ## The frame rows: each does what the vector of its operation says -/

theorem test_frame_status_and_id :
    result (exec .statusReadFrame (ready (status 0xAC).answers)) = result (exec .readStatus (ready (status 0xAC).answers))
    ∧ result (exec .idReadFrame (ready (reply [0, 1, 2, 3, 4]).answers))
      = some (some (.ok (.id 1 2 3 4)), (reply [0, 1, 2, 3, 4]).events [0x9F, 0, 0, 0, 0]) := by decide
theorem test_frame_page_read :
    result (exec (.pageReadFrame 0x019032) (ready (reply (zeros 8)).answers))
      = okAfter ((reply (zeros 8)).events [0xD2, 0x01, 0x90, 0x32, 0, 0, 0, 0]) := by decide
theorem test_frame_page_read_beyond : result (exec (.pageReadFrame 0x400000) (ready [])) = rejection := by decide
theorem test_frame_array_read :
    result (exec (.arrayReadFrame 0x019032) (ready (reply (zeros 5)).answers))
      = okAfter ((reply (zeros 5)).events [0x0B, 0x01, 0x90, 0x32, 0]) := by decide
theorem test_frame_buffer_read :
    result (exec (.buffer1ReadFrame 0) (ready (pollReady ++ (reply (zeros 5)).answers)))
      = okAfter (pollSeen ++ (reply (zeros 5)).events [0xD4, 0, 0, 0, 0])
    ∧ result (exec (.buffer2ReadFrame 0x123) (ready (pollReady ++ (reply (zeros 5)).answers)))
      = okAfter (pollSeen ++ (reply (zeros 5)).events [0xD6, 0x00, 0x01, 0x23, 0]) := by decide
theorem test_frame_buffer_write :
    result (exec (.buffer1WriteFrame 0) (ready (pollReady ++ four.answers)))
      = okAfter (pollSeen ++ four.events [0x84, 0, 0, 0])
    ∧ result (exec (.buffer2WriteFrame 0x3FF) (ready (pollReady ++ four.answers)))
      = okAfter (pollSeen ++ four.events [0x87, 0x00, 0x03, 0xFF]) := by decide
theorem test_frame_buffer_to_page_auto :
    result (exec (.buffer1ToPageWithEraseFrame 0x1400) (ready (four.answers ++ [yes, yes])))
      = okAfter (four.events [0x83, 0x00, 0x14, 0x00] ++ startEvents)
    ∧ result (exec (.buffer2ToPageWithEraseFrame 0x1400) (ready (four.answers ++ [yes, yes])))
      = okAfter (four.events [0x86, 0x00, 0x14, 0x00] ++ startEvents)
    ∧ result (exec (.buffer1ToPageWithoutEraseFrame 0x1400) (ready [])) = rejection := by decide
theorem test_frame_buffer_to_page_manual :
    result (exec (.buffer1ToPageWithoutEraseFrame 0x1400) (readyAs e1Manual (four.answers ++ [yes, yes])))
      = okAfter (four.events [0x88, 0x00, 0x14, 0x00] ++ startEvents)
    ∧ result (exec (.buffer2ToPageWithoutEraseFrame 0x1400) (readyAs e1Manual (four.answers ++ [yes, yes])))
      = okAfter (four.events [0x89, 0x00, 0x14, 0x00] ++ startEvents)
    ∧ result (exec (.buffer2ToPageWithEraseFrame 0x1400) (readyAs e1Manual [])) = rejection := by decide
theorem test_frame_page_to_buffer :
    result (exec (.pageToBuffer1Frame 0) (ready (four.answers ++ [yes, yes])))
      = okAfter (four.events [0x53, 0, 0, 0] ++ startEvents)
    ∧ result (exec (.pageToBuffer2Frame 0x3FFC00) (ready (four.answers ++ [yes, yes])))
      = okAfter (four.events [0x55, 0x3F, 0xFC, 0x00] ++ startEvents) := by decide
theorem test_frame_page_erase :
    result (exec (.pageEraseFrame 0x1400) (ready (pollReady ++ four.answers ++ [yes, yes])))
      = okAfter (pollSeen ++ four.events [0x81, 0x00, 0x14, 0x00] ++ startEvents)
    ∧ result (exec (.pageEraseFrame 0x1401) (ready [])) = rejection := by decide
theorem test_frame_block_erase :
    result (exec (.blockEraseFrame 0x3FE000) (ready (pollReady ++ four.answers ++ [yes, yes])))
      = okAfter (pollSeen ++ four.events [0x50, 0x3F, 0xE0, 0x00] ++ startEvents)
    ∧ result (exec (.blockEraseFrame 0x400000) (ready [])) = rejection := by decide
theorem test_frame_sector_erase :
    result (exec (.sectorEraseFrame 0x002000) (ready (pollReady ++ four.answers ++ [yes, yes])))
      = okAfter (pollSeen ++ four.events [0x7C, 0x00, 0x20, 0x00] ++ startEvents)
    ∧ result (exec (.sectorEraseFrame 0x3C0000) (ready (pollReady ++ four.answers ++ [yes, yes])))
      = okAfter (pollSeen ++ four.events [0x7C, 0x3C, 0x00, 0x00] ++ startEvents) := by decide
theorem test_frame_compare :
    result (exec (.comparePageToBuffer1Frame 0x1400) (ready (four.answers ++ [yes, yes] ++ pollReady ++ (status 0x00).answers)))
      = some (some (.ok (.bool true)), four.events [0x60, 0x00, 0x14, 0x00] ++ startEvents ++ pollSeen
          ++ (status 0x00).events [0xD7, 0])
    ∧ result (exec (.comparePageToBuffer2Frame 0x1400) (ready (four.answers ++ [yes, yes] ++ pollReady ++ (status 0x40).answers)))
      = some (some (.ok (.bool false)), four.events [0x61, 0x00, 0x14, 0x00] ++ startEvents ++ pollSeen
          ++ (status 0x40).events [0xD7, 0]) := by decide
theorem test_frame_power :
    result (exec .deepPowerDownFrame (ready ((reply [0]).answers ++ [yes])))
      = okAfter ((reply [0]).events [0xB9] ++ [.desel true])
    ∧ result (exec .resumeFromDeepPowerDownFrame (ready ((reply [0]).answers ++ [no])))
      = some (some (.err .transportFailure), (reply [0]).events [0xAB] ++ [.desel false]) := by decide
theorem test_frame_protection :
    [Instr.enableSectorProtectionFrame, .disableSectorProtectionFrame, .eraseProtectionRegisterFrame].map
        (fun i => result (exec i (ready (pollReady ++ [yes] ++ four.answers ++ [yes, yes]))))
      = [0xA9, 0x9A, 0xCF].map fun b =>
        okAfter (pollSeen ++ [.wp true true] ++ four.events [0x3D, 0x2A, 0x7F, b] ++ [.desel true, .wp false true]) := by decide

/-! ## The step -/

/-- The first step after reset runs the word placed: in phase `Uninitialized` it is rejected (R243). -/
theorem test_step_placed_word : result (step (State.reset.withFetchWord 32 0x50002000)) = rejection := by decide
/-- P1, 2h: the host's payload. -/
theorem test_step_host_payload :
    result (step { ready [⟨true, [1, 2], true⟩] with frameOpen := true, host := [.xchg [0xDE, 0xAD]] })
      = some (none, [.hostXchg [0xDE, 0xAD] (some [1, 2])]) := by decide
/-- V10, a wait in progress goes on polling: with the next poll ready it ends (R283). -/
theorem test_step_carries_on :
    result (step { ready pollReady with seq := .run .waitUntilReady 0 (poll Config.default) .unit, bw := ⟨.issue, 0⟩ })
      = okAfter pollSeen := by decide

/-! ## Witnesses: for every statement with hypotheses, a state and operands that meet them all -/

theorem good_reply (bytes : List Byte) : (reply bytes).good bytes.length := ⟨rfl, rfl, rfl, Nat.le_refl _⟩

theorem legal_e1 : handleLegal Config.default e1 := ⟨by decide, false, by decide⟩

/-- A wait that ends on its second poll, with no budget. -/
theorem wait_two : waitEnds Config.default [status 0x2C, status 0xAC] :=
  ⟨[status 0x2C], status 0xAC, rfl, by intro p hp; cases List.mem_singleton.mp hp; exact ⟨good_reply _, rfl⟩, good_reply _,
    rfl, by intro n h; cases h⟩

/-- A wait that ends on the last poll a budget of 1 allows. -/
theorem wait_budget : waitEnds { Config.default with pollBudget := some 1 } [status 0xAC] :=
  ⟨[], status 0xAC, rfl, (by intro p hp; cases hp), good_reply _, rfl, by intro n h; cases h; decide⟩

/-- Two busy polls. -/
theorem busy_two (c : Cfg) (h : statusLength c = 2) : allBusy c [status 0x2C, status 0x2C] := by
  intro p hp
  simp only [List.mem_cons, List.not_mem_nil, or_false, or_self] at hp
  subst hp
  exact ⟨h ▸ good_reply _, rfl⟩

/-- The polls of `wait_two`. -/
def twoPolls : List Reply := [status 0x2C, status 0xAC]

theorem witness_DecodeOfEncodeIsIdentity :
    cfgWellFormed Config.default = true
    ∧ cfgWellFormed { Config.default with densityRule := .mask3CShift2, pollBudget := some 1, bitOrder := 1 } = true := by
  decide

theorem witness_EncodeOfDecodedFrame :
    decodeFrame Config.default [0x50, 0x3F, 0xE0, 0x00] = .ok (.blockEraseFrame 0x3FE000) := by decide

theorem witness_ByteFormEqualsFieldForm :
    (8 ≤ 8 ∧ 8 ≤ 16 ∧ 65535 < 2 ^ (24 - 8) ∧ 255 < 2 ^ 8) ∧ (8 ≤ 16 ∧ 16 ≤ 16 ∧ 255 < 2 ^ (24 - 16) ∧ 65535 < 2 ^ 16) := by
  decide

theorem witness_PageAddressRoundTrip :
    (8 ≤ 8 ∧ 8 ≤ 11 ∧ 65535 < 2 ^ (24 - 8)) ∧ (8 ≤ 11 ∧ 11 ≤ 11 ∧ 8191 < 2 ^ (24 - 11)) := by decide

/-- Every operand at the top of its range, sectors at both ends. -/
theorem witness_InRangeFieldsLoseNoBit :
    cfgWellFormed Config.default = true ∧ geometryFor Config.default.geom 6 false = some ⟨11, 13, 5⟩
    ∧ (8191#16).toNat < 2 ^ 13 ∧ (2047#16).toNat < 2 ^ 11 ∧ (1023#16).toNat < 2 ^ (13 - 3)
    ∧ 1 ≤ (1#8).toNat ∧ (31#8).toNat < 2 ^ 5 := by decide

theorem witness_SectorFieldsDisjoint :
    cfgWellFormed Config.default = true ∧ geometryFor Config.default.geom 4 true = some ⟨9, 12, 4⟩
    ∧ 1 ≤ (1#8).toNat ∧ (1#8).toNat < 2 ^ 4 ∧ 1 ≤ (15#8).toNat ∧ (15#8).toNat < 2 ^ 4 := by decide

/-- Both clauses, where they meet: 7 is no row, 6 is the last. -/
theorem witness_GeometryContract : cfgWellFormed Config.default = true ∧ 6 < 7 ∧ 6 < 7 := by decide

theorem witness_FieldRecoversOperands :
    cfgWellFormed Config.default = true ∧ handleLegal Config.default e1 ∧ (4095#16).toNat < 2 ^ e1.bits.page
    ∧ (1023#16).toNat < 2 ^ e1.bits.buffer ∧ (511#16).toNat < 2 ^ (e1.bits.page - 3) ∧ sectorInRange e1.bits .s0A = true
    ∧ sectorInRange e1.bits .s0B = true ∧ sectorInRange e1.bits (.sn 1) = true ∧ sectorInRange e1.bits (.sn 15) = true :=
  ⟨by decide, legal_e1, by decide⟩

/-- A state whose host presents a request. -/
def presenting (code : Code) : State := { ready [] with host := [.present code] }

theorem witness_StepRunsDecodedInstruction :
    let s := presenting (.request (bareRequest 0x03))
    cfgWellFormed s.cfg = true ∧ s.resetPin = false ∧ s.seq = .idle ∧ s.host = .present (.request (bareRequest 0x03)) :: []
    ∧ decode s.cfg (.request (bareRequest 0x03)) = .ok .readStatus := by decide

theorem witness_StepRefusesWhatIsNoFrame :
    let s := presenting (.frame [0xD7])
    cfgWellFormed s.cfg = true ∧ s.resetPin = false ∧ s.seq = .idle ∧ s.host = .present (.frame [0xD7]) :: []
    ∧ decodeFrame s.cfg [0xD7] = .error (.wrongTail 0xD7) := by decide

theorem witness_StepRefusesIllFormedCfg : cfgWellFormed { Config.default with pollBudget := some 0 } = false := by decide

/-- A wait in progress, with the reset asserted. -/
theorem witness_HardwareResetEmptiesHandle :
    let s := { ready [] with seq := .run .waitUntilReady 0 (poll Config.default) .unit, resetPin := true }
    cfgWellFormed s.cfg = true ∧ s.resetPin = true := by decide

theorem witness_IdleWaitsForRequest :
    cfgWellFormed State.reset.cfg = true ∧ State.reset.resetPin = false ∧ State.reset.seq = .idle ∧ State.reset.host = [] := by
  decide

/-- A state in which the host acts on the transport. -/
def streaming (isOpen : Bool) (a : Answer) (m : HostMove) : State :=
  { ready [a] with frameOpen := isOpen, host := [m] }

/-- The five clauses. -/
theorem witness_HostStreamsOnOpenFrame :
    let a : Answer := ⟨true, [0x11, 0x22], true⟩
    let s1 := streaming true a (.xchg [0, 0])
    let s2 := streaming true no (.xchg [0, 0])
    let s3 := streaming false a (.xchg [0, 0])
    let s4 := streaming true a .desel
    let s5 := streaming true no .desel
    (∀ s ∈ [s1, s2, s3, s4, s5], cfgWellFormed s.cfg = true ∧ s.resetPin = false ∧ s.seq = .idle)
    ∧ (s1.answers = a :: [] ∧ s1.host = .xchg [0, 0] :: [] ∧ s1.frameOpen = true ∧ a.ok = true ∧ a.bytes.length = 2)
    ∧ (s2.answers = no :: [] ∧ s2.host = .xchg [0, 0] :: [] ∧ s2.frameOpen = true ∧ no.ok = false)
    ∧ (s3.answers = a :: [] ∧ s3.host = .xchg [0, 0] :: [] ∧ s3.frameOpen = false)
    ∧ (s4.answers = a :: [] ∧ s4.host = .desel :: [])
    ∧ (s5.answers = no :: [] ∧ s5.host = .desel :: []) := by decide

theorem witness_CfgNeverChanges : step State.reset = .next State.reset := rfl

theorem witness_PhaseCheckRejects :
    (ready []).seq = .idle ∧ (ready []).handle.phase ≠ .uninitialized ∧ Instr.endOp ≠ .setup
    ∧ (fresh []).seq = .idle ∧ (fresh []).handle.phase ≠ .ready := by decide

/-- Every clause at the first operand out of range. -/
theorem witness_OperandRangeRejects :
    (ready []).readyWith e1 ∧ 2 ^ e1.bits.page ≤ (4096#16).toNat ∧ 2 ^ e1.bits.buffer ≤ (1024#16).toNat ∧ 2 ≤ (2#8).toNat
    ∧ 2 ^ (e1.bits.page - 3) ≤ (512#16).toNat ∧ (0#8).toNat = 0 ∧ 2 ^ e1.bits.sector ≤ (16#8).toNat :=
  ⟨⟨rfl, rfl⟩, by decide⟩

theorem witness_MalformedRequestRejects : State.reset.seq = .idle := rfl

/-- A field above `2^(bb+pb)` carries no page and offset, one above `2^bb` no buffer offset, and one with offset bits set
no page, block or sector. -/
theorem witness_FrameOfNoOperandRejected :
    (ready []).readyWith e1
    ∧ (∀ page offset : Operand, page.toNat < 2 ^ e1.bits.page → offset.toNat < 2 ^ e1.bits.buffer →
        pageField e1.bits page offset ≠ 0x400000)
    ∧ (∀ offset : Operand, offset.toNat < 2 ^ e1.bits.buffer → offsetField offset ≠ 0x400)
    ∧ (∀ page : Operand, page.toNat < 2 ^ e1.bits.page → pageField e1.bits page 0 ≠ 1)
    ∧ (∀ block : Operand, block.toNat < 2 ^ (e1.bits.page - 3) → blockField e1.bits block ≠ 1)
    ∧ (∀ sector : Sector, sectorInRange e1.bits sector = true → sectorField e1.bits sector ≠ 1)
    ∧ (readyAs e1Manual []).readyWith e1Manual ∧ e1Manual.eraseMode = .manual ∧ e1.eraseMode = .auto := by
  refine ⟨⟨rfl, rfl⟩, ?_, ?_, ?_, ?_, ?_, ⟨rfl, rfl⟩, rfl, rfl⟩
  · intro page offset hp ho h
    have hlt : ((page.toNat <<< 10) ||| offset.toNat) < 2 ^ 22 :=
      Nat.or_lt_two_pow (by rw [Nat.shiftLeft_eq]; change page.toNat < 4096 at hp; omega)
        (by change offset.toNat < 1024 at ho; omega)
    have : ((page.toNat <<< 10) ||| offset.toNat) % 2 ^ 24 = 0x400000 := congrArg BitVec.toNat h
    omega
  · intro offset ho h
    have : offset.toNat % 2 ^ 24 = 0x400 := congrArg BitVec.toNat h
    change offset.toNat < 1024 at ho
    omega
  · intro page hp h
    have : ((page.toNat <<< 10) ||| 0) % 2 ^ 24 = 1 := congrArg BitVec.toNat h
    change page.toNat < 4096 at hp
    rw [Nat.or_zero, Nat.shiftLeft_eq] at this
    omega
  · intro block hb h
    have : (block.toNat <<< 13) % 2 ^ 24 = 1 := congrArg BitVec.toNat h
    change block.toNat < 512 at hb
    rw [Nat.shiftLeft_eq] at this
    omega
  · intro sector hs h
    cases sector with
    | s0A => exact absurd h (by decide)
    | s0B => exact absurd h (by decide)
    | illegal => exact absurd h (by decide)
    | sn n =>
      have : (sectorField e1.bits (.sn n)).toNat = 1 := congrArg BitVec.toNat h
      simp only [sectorField, show e1.bits.buffer + e1.bits.page - e1.bits.sector = 18 from rfl, BitVec.toNat_ofNat,
        Nat.shiftLeft_eq] at this
      omega

theorem witness_RequestWhileBusyRefused :
    { ready [] with seq := .run .readStatus 0 (frame [0xD7, 0] .status) .unit }.seq ≠ .idle := by decide

theorem witness_EndEmptiesHandle :
    (ready []).seq = .idle ∧ (ready []).handle.phase = .ready ∧ (fresh []).seq = .idle ∧ (fresh []).handle.phase ≠ .ready := by
  decide

theorem witness_SetEraseModeWritesModeAlone :
    (ready []).seq = .idle ∧ (ready []).handle = .ready e1 ∧ (fresh []).seq = .idle ∧ (fresh []).handle.phase ≠ .ready := by
  decide

theorem witness_SetupReadsDensityAndId :
    let p := status 0x2C
    let q := reply [0, 0x1F, 0x26, 0, 0]
    let s := fresh (p.answers ++ q.answers ++ [])
    s.seq = .idle ∧ s.handle = .uninitialized ∧ p.good (statusLength s.cfg) ∧ q.good (idLength s.cfg)
    ∧ s.answers = p.answers ++ q.answers ++ [] ∧ densityIndex s.cfg.densityRule p.status = some 4
    ∧ geometryFor s.cfg.geom 4 (psize p.status) = some ⟨10, 12, 4⟩ :=
  ⟨rfl, rfl, good_reply _, good_reply _, rfl, by decide, by decide⟩

theorem witness_SetupFailsOnUnsupportedDensity :
    let p := status 0x04
    let s := fresh (p.answers ++ [])
    s.seq = .idle ∧ s.handle = .uninitialized ∧ p.good (statusLength s.cfg) ∧ s.answers = p.answers ++ []
    ∧ densityIndex s.cfg.densityRule p.status = none :=
  ⟨rfl, rfl, good_reply _, rfl, by decide⟩

theorem witness_ReadStatusReturnsByte :
    let p := status 0xAC
    let s := ready (p.answers ++ [])
    s.readyWith e1 ∧ p.good (statusLength s.cfg) ∧ s.answers = p.answers ++ [] :=
  ⟨⟨rfl, rfl⟩, good_reply _, rfl⟩

theorem witness_IsReadyReturnsBit7 :
    let p := status 0x7F
    let s := ready (p.answers ++ [])
    s.readyWith e1 ∧ p.good (statusLength s.cfg) ∧ s.answers = p.answers ++ [] :=
  ⟨⟨rfl, rfl⟩, good_reply _, rfl⟩

theorem witness_ReadIdReturnsFourBytes :
    let p := reply [0, 1, 2, 3, 4]
    let s := ready (p.answers ++ [])
    s.readyWith e1 ∧ p.good (idLength s.cfg) ∧ s.answers = p.answers ++ [] :=
  ⟨⟨rfl, rfl⟩, good_reply _, rfl⟩

theorem witness_WaitUntilReadyPolls :
    (ready (pollAnswers twoPolls)).readyWith e1 ∧ waitEnds (ready (pollAnswers twoPolls)).cfg twoPolls
    ∧ (ready (pollAnswers twoPolls)).answers = pollAnswers twoPolls ++ []
    ∧ waitEnds (budgeted 1 (ready pollReady)).cfg [status 0xAC] :=
  ⟨⟨rfl, rfl⟩, wait_two, rfl, wait_budget⟩

/-- Both clauses, under a budget of 2. -/
theorem witness_WaitTimesOutUnderBudget :
    let ps := [status 0x2C, status 0x2C]
    let s := budgeted 2 (ready (pollAnswers ps))
    let s' := budgeted 2 (ready (four.answers ++ [yes, yes] ++ pollAnswers ps ++ []))
    (s.readyWith e1 ∧ s.cfg.pollBudget = some 2 ∧ 1 ≤ 2 ∧ ps.length = 2 ∧ allBusy s.cfg ps
      ∧ s.answers = pollAnswers ps ++ [] ∧ (1#8).toNat < 2 ∧ (1023#16).toNat < 2 ^ e1.bits.buffer
      ∧ (4095#16).toNat < 2 ^ e1.bits.page ∧ (511#16).toNat < 2 ^ (e1.bits.page - 3)
      ∧ sectorInRange e1.bits (.sn 15) = true)
    ∧ (s'.readyWith e1 ∧ s'.cfg.pollBudget = some 2 ∧ allBusy s'.cfg ps ∧ four.good (4 + s'.cfg.dummy.compare) ∧ yes.ok = true
      ∧ s'.answers = four.answers ++ [yes, yes] ++ pollAnswers ps ++ []) :=
  ⟨⟨⟨rfl, rfl⟩, rfl, by decide, rfl, busy_two _ rfl, rfl, by decide⟩,
    ⟨rfl, rfl⟩, rfl, busy_two _ rfl, good_reply _, rfl, rfl⟩

theorem witness_WaitMayNeverEnd :
    let ps := [status 0x2C, status 0x2C]
    let s := ready (pollAnswers ps)
    s.readyWith e1 ∧ s.cfg.pollBudget = none ∧ allBusy s.cfg ps ∧ s.answers = pollAnswers ps :=
  ⟨⟨rfl, rfl⟩, rfl, busy_two _ rfl, rfl⟩

theorem witness_PageReadSendsFrame :
    let p := reply (zeros 8)
    let s := ready (p.answers ++ [])
    s.readyWith e1 ∧ cfgWellFormed s.cfg = true ∧ handleLegal s.cfg e1 ∧ (4095#16).toNat < 2 ^ e1.bits.page
    ∧ (1023#16).toNat < 2 ^ e1.bits.buffer ∧ p.good (4 + s.cfg.dummy.pageRead) ∧ s.answers = p.answers ++ [] :=
  ⟨⟨rfl, rfl⟩, by decide, legal_e1, by decide, by decide, good_reply _, rfl⟩

theorem witness_ArrayReadSendsFrame :
    let p := reply (zeros 5)
    let s := ready (p.answers ++ [])
    s.readyWith e1 ∧ cfgWellFormed s.cfg = true ∧ handleLegal s.cfg e1 ∧ (100#16).toNat < 2 ^ e1.bits.page
    ∧ (50#16).toNat < 2 ^ e1.bits.buffer ∧ p.good (4 + s.cfg.dummy.arrayRead) ∧ s.answers = p.answers ++ [] :=
  ⟨⟨rfl, rfl⟩, by decide, legal_e1, by decide, by decide, good_reply _, rfl⟩

/-- Both buffers. -/
theorem witness_BufferReadWaitsThenSends :
    let p := reply (zeros 5)
    let s := ready (pollAnswers twoPolls ++ p.answers ++ [])
    s.readyWith e1 ∧ (0#8).toNat < 2 ∧ (1#8).toNat < 2 ∧ (1023#16).toNat < 2 ^ e1.bits.buffer ∧ waitEnds s.cfg twoPolls
    ∧ p.good (4 + s.cfg.dummy.bufferRead) ∧ s.answers = pollAnswers twoPolls ++ p.answers ++ [] :=
  ⟨⟨rfl, rfl⟩, by decide, by decide, by decide, wait_two, good_reply _, rfl⟩

theorem witness_BufferWriteWaitsThenSends :
    let s := ready (pollAnswers twoPolls ++ four.answers ++ [])
    s.readyWith e1 ∧ (0#8).toNat < 2 ∧ (1#8).toNat < 2 ∧ (1023#16).toNat < 2 ^ e1.bits.buffer ∧ waitEnds s.cfg twoPolls
    ∧ four.good (4 + s.cfg.dummy.bufferWrite) ∧ s.answers = pollAnswers twoPolls ++ four.answers ++ [] :=
  ⟨⟨rfl, rfl⟩, by decide, by decide, by decide, wait_two, good_reply _, rfl⟩

/-- Both buffers in both modes. -/
theorem witness_BufferToPageStartsTransfer :
    let s := ready (four.answers ++ [yes, yes] ++ [])
    let s' := readyAs e1Manual (four.answers ++ [yes, yes] ++ [])
    (s.readyWith e1 ∧ cfgWellFormed s.cfg = true ∧ handleLegal s.cfg e1 ∧ (0#8).toNat < 2 ∧ (1#8).toNat < 2
      ∧ (4095#16).toNat < 2 ^ e1.bits.page ∧ four.good (4 + s.cfg.dummy.bufferToPage) ∧ yes.ok = true
      ∧ s.answers = four.answers ++ [yes, yes] ++ [] ∧ e1.eraseMode = .auto)
    ∧ (s'.readyWith e1Manual ∧ handleLegal s'.cfg e1Manual ∧ s'.answers = four.answers ++ [yes, yes] ++ []
      ∧ e1Manual.eraseMode = .manual) :=
  ⟨⟨⟨rfl, rfl⟩, by decide, legal_e1, by decide, by decide, by decide, good_reply _, rfl, rfl, rfl⟩,
    ⟨rfl, rfl⟩, legal_e1, rfl, rfl⟩

theorem witness_PageToBufferStartsTransfer :
    let s := ready (four.answers ++ [yes, yes] ++ [])
    s.readyWith e1 ∧ cfgWellFormed s.cfg = true ∧ handleLegal s.cfg e1 ∧ (0#8).toNat < 2 ∧ (1#8).toNat < 2
    ∧ (4095#16).toNat < 2 ^ e1.bits.page ∧ four.good (4 + s.cfg.dummy.pageToBuffer) ∧ yes.ok = true ∧ s.answers = four.answers ++ [yes, yes] ++ [] :=
  ⟨⟨rfl, rfl⟩, by decide, legal_e1, by decide, by decide, by decide, good_reply _, rfl, rfl⟩

/-- The state of the three erases: a wait, the frame, the start. -/
def erasing : State := ready (pollAnswers twoPolls ++ four.answers ++ [yes, yes] ++ [])

theorem witness_PageEraseWaitsThenStarts :
    erasing.readyWith e1 ∧ cfgWellFormed erasing.cfg = true ∧ handleLegal erasing.cfg e1
    ∧ (4095#16).toNat < 2 ^ e1.bits.page ∧ waitEnds erasing.cfg twoPolls ∧ four.good (4 + erasing.cfg.dummy.pageErase) ∧ yes.ok = true
    ∧ erasing.answers = pollAnswers twoPolls ++ four.answers ++ [yes, yes] ++ [] :=
  ⟨⟨rfl, rfl⟩, by decide, legal_e1, by decide, wait_two, good_reply _, rfl, rfl⟩

theorem witness_BlockEraseWaitsThenStarts :
    erasing.readyWith e1 ∧ cfgWellFormed erasing.cfg = true ∧ handleLegal erasing.cfg e1
    ∧ (511#16).toNat < 2 ^ (e1.bits.page - 3) ∧ waitEnds erasing.cfg twoPolls ∧ four.good (4 + erasing.cfg.dummy.blockErase) ∧ yes.ok = true
    ∧ erasing.answers = pollAnswers twoPolls ++ four.answers ++ [yes, yes] ++ [] :=
  ⟨⟨rfl, rfl⟩, by decide, legal_e1, by decide, wait_two, good_reply _, rfl, rfl⟩

theorem witness_SectorEraseWaitsThenStarts :
    erasing.readyWith e1 ∧ cfgWellFormed erasing.cfg = true ∧ handleLegal erasing.cfg e1
    ∧ waitEnds erasing.cfg twoPolls ∧ four.good (4 + erasing.cfg.dummy.sectorErase) ∧ yes.ok = true
    ∧ erasing.answers = pollAnswers twoPolls ++ four.answers ++ [yes, yes] ++ []
    ∧ 1 ≤ (1#8).toNat ∧ (15#8).toNat < 2 ^ e1.bits.sector :=
  ⟨⟨rfl, rfl⟩, by decide, legal_e1, wait_two, good_reply _, rfl, rfl, by decide, by decide⟩

theorem witness_CompareReturnsLastBit6Clear :
    let q := status 0xEC
    let s := ready (four.answers ++ [yes, yes] ++ pollAnswers twoPolls ++ q.answers ++ [])
    s.readyWith e1 ∧ cfgWellFormed s.cfg = true ∧ handleLegal s.cfg e1 ∧ (0#8).toNat < 2 ∧ (1#8).toNat < 2
    ∧ (4095#16).toNat < 2 ^ e1.bits.page ∧ four.good (4 + s.cfg.dummy.compare) ∧ yes.ok = true ∧ waitEnds s.cfg twoPolls
    ∧ q.good (statusLength s.cfg)
    ∧ s.answers = four.answers ++ [yes, yes] ++ pollAnswers twoPolls ++ q.answers ++ [] :=
  ⟨⟨rfl, rfl⟩, by decide, legal_e1, by decide, by decide, by decide, good_reply _, rfl, wait_two, good_reply _, rfl⟩

theorem witness_DeepPowerDownDeselects :
    let p := reply [0]
    let s := ready (p.answers ++ [yes] ++ [])
    s.readyWith e1 ∧ p.good (1 + s.cfg.dummy.deepPowerDown) ∧ yes.ok = true ∧ s.answers = p.answers ++ [yes] ++ [] :=
  ⟨⟨rfl, rfl⟩, good_reply _, rfl, rfl⟩

theorem witness_ResumeSleepsBeforeResponse :
    let p := reply [0]
    let s := ready (p.answers ++ [yes] ++ [])
    s.readyWith e1 ∧ p.good (1 + s.cfg.dummy.resume) ∧ yes.ok = true ∧ s.answers = p.answers ++ [yes] ++ [] :=
  ⟨⟨rfl, rfl⟩, good_reply _, rfl, rfl⟩

/-- With and without a pin. -/
theorem witness_HardResetSequence :
    let s := ready (no :: [])
    let s' := ready (yes :: yes :: no :: [])
    (s.readyWith e1 ∧ no.pin = false ∧ s.answers = no :: [])
    ∧ (s'.readyWith e1 ∧ yes.pin = true ∧ yes.ok = true ∧ s'.answers = yes :: yes :: no :: []) :=
  ⟨⟨⟨rfl, rfl⟩, rfl, rfl⟩, ⟨rfl, rfl⟩, rfl, rfl, rfl⟩

theorem witness_ProtectionSequence :
    let s := ready (pollAnswers twoPolls ++ [no] ++ four.answers ++ [yes, no] ++ [])
    s.readyWith e1 ∧ waitEnds s.cfg twoPolls ∧ four.good (4 + s.cfg.dummy.protection) ∧ yes.ok = true
    ∧ s.answers = pollAnswers twoPolls ++ [no] ++ four.answers ++ [yes, no] ++ [] :=
  ⟨⟨rfl, rfl⟩, wait_two, good_reply _, rfl, rfl⟩

/-- A poll in progress, whose next step goes on. -/
def polling (as : List Answer) : State :=
  { ready as with seq := .run .waitUntilReady 0 (poll Config.default) .unit, bw := ⟨.issue, 0⟩ }

theorem polling_inv (as : List Answer) : (polling as).Inv :=
  ⟨test_cfg_default, fun r h => by cases h; exact legal_e1, ⟨rfl, rfl, rfl, rfl, by simp [todoLegal, poll, frame], .inr rfl⟩, rfl⟩

theorem witness_StepKeepsInvariant : (polling pollReady).Inv ∧ ∃ t, step (polling pollReady) = .next t :=
  ⟨polling_inv _, _, rfl⟩

theorem witness_LinesFollowTrace :
    (polling pollReady).resetPin = false ∧ ∃ t, step (polling pollReady) = .next t := ⟨rfl, _, rfl⟩

/-- One state for each of the six clauses. -/
theorem witness_OnlyThreeOperationsWriteHandle :
    (∃ t, exec .deepPowerDown (ready []) = .next t) ∧ writesHandle .deepPowerDown = false
    ∧ (∃ t, exec (.setEraseMode .manual) (ready []) = .next t) ∧ (∃ t, exec .endOp (ready []) = .next t)
    ∧ (∃ t, { ready [] with resetPin := true }.resetPin = true ∧ step { ready [] with resetPin := true } = .next t)
    ∧ (∃ t, exec .setup (fresh (status 0x04).answers) = .next t)
    ∧ (polling pollReady).Inv ∧ (polling pollReady).seq = .run .waitUntilReady 0 (poll Config.default) .unit
    ∧ Instr.waitUntilReady ≠ .setup :=
  ⟨⟨_, rfl⟩, rfl, ⟨_, rfl⟩, ⟨_, rfl⟩, ⟨_, rfl, rfl⟩, ⟨_, rfl⟩, polling_inv _, rfl, by decide⟩

theorem witness_PhaseTransitionTable :
    (∃ t, exec .setup (fresh (status 0x04).answers) = .next t)
    ∧ (polling pollReady).Inv ∧ (polling pollReady).seq = .run .waitUntilReady 0 (poll Config.default) .unit
    ∧ (∃ t, { ready [] with resetPin := true }.resetPin = true ∧ step { ready [] with resetPin := true } = .next t) :=
  ⟨⟨_, rfl⟩, polling_inv _, rfl, _, rfl, rfl⟩

theorem witness_PreconditionViolationEmitsNothing :
    ∃ t, exec (.blockErase 512) (ready []) = .next t ∧ t.response = some (.err .preconditionViolation) := ⟨_, rfl, rfl⟩

theorem witness_EveryXchgFollowsDecoderReset : ∃ t, exec .readStatus (ready (status 0xAC).answers) = .next t := ⟨_, rfl⟩

theorem witness_ErrorsOfEachOperation :
    ∃ t, exec .readStatus (ready [yes, no]) = .next t ∧ t.response = some (.err .transportFailure) := ⟨_, rfl, rfl⟩

theorem witness_TransportFailureIsLastEvent : ∃ t, exec .readStatus (ready [yes, no]) = .next t := ⟨_, rfl⟩

/-- Both clauses. -/
theorem witness_EventCounts :
    (∃ t, exec .waitUntilReady (ready (pollAnswers twoPolls)) = .next t ∧ t.response = some (.ok .unit))
    ∧ (∃ t, exec .setup (fresh (status 0x04).answers) = .next t ∧ t.response = some (.err .setupFailure)) :=
  ⟨⟨_, rfl, rfl⟩, _, rfl, rfl⟩

/-- Both clauses: the operation ends, and it stands at its second answer. -/
theorem witness_AnswersInBatchesMakeNoDifference :
    (cfgWellFormed (ready (status 0xAC).answers).cfg = true ∧ (ready (status 0xAC).answers).resetPin = false ∧ [yes] ≠ []
      ∧ ∃ t, exec .readStatus (ready (status 0xAC).answers) = .next t ∧ t.seq = .idle)
    ∧ (∃ t, exec .readStatus (ready [yes]) = .next t ∧ t.seq ≠ .idle) :=
  ⟨⟨by decide, rfl, by decide, _, rfl, rfl⟩, _, rfl, by decide⟩

theorem witness_EraseModeOnlySelectsOpcode :
    kindOf (.pageErase 5) ≠ .bufferToPage ∧ ∃ t, exec (.pageErase 5) erasing = .next t := ⟨by decide, _, rfl⟩

end Sys2Proof.Tests
end

section
/-! The statements of spec/00_scope.md: what no step changes, what every step does to trace and lines, and that the
batches in which answers are decided make no difference. -/

namespace Sys2Proof.Machine

/-! ## What a step can do -/

/-- Everything a step that answers `t` can have done (R49, R270, R283). -/
inductive Stepped (s t : State) : Prop
  /-- Hardware reset. -/
  | reset (hp : s.resetPin = true) (h : t = hardwareReset s)
  /-- The operation in progress went on. -/
  | carriedOn (hp : s.resetPin = false) (hb : s.busy = true) (h : t = s.resume)
  /-- No request, no move. -/
  | waited (hp : s.resetPin = false) (hs : s.seq = .idle) (hh : s.host = []) (h : t = s)
  /-- The host presented an instruction. -/
  | executed (code : Code) (rest : List HostMove) (i : Instr) (hp : s.resetPin = false) (hs : s.seq = .idle)
      (hh : s.host = .present code :: rest) (hd : decode s.cfg code = .ok i) (h : exec i (s.setHost rest) = .next t)
  /-- The host exchanged bytes on the open frame. -/
  | hostExchanged (out : List Byte) (rest : List HostMove) (hp : s.resetPin = false) (hs : s.seq = .idle)
      (hh : s.host = .xchg out :: rest) (h : hostXchg out (s.setHost rest) = .next t)
  /-- The host deselected. -/
  | hostDeselected (rest : List HostMove) (hp : s.resetPin = false) (hs : s.seq = .idle)
      (hh : s.host = .desel :: rest) (h : hostDesel (s.setHost rest) = .next t)

theorem step_of_illFormed {s : State} (hc : cfgWellFormed s.cfg = false) : step s = .refused .illFormedCfg := by
  simp [step, nextTurn, hc]

theorem step_of_reset {s : State} (hc : cfgWellFormed s.cfg = true) (hp : s.resetPin = true) :
    step s = .next (hardwareReset s) := by
  simp [step, nextTurn, hc, hp]

theorem step_of_busy {s : State} (hc : cfgWellFormed s.cfg = true) (hp : s.resetPin = false) (hb : s.busy = true) :
    step s = .next s.resume := by
  cases hs : s.seq with
  | idle => simp [State.busy, hs] at hb
  | run op k todo v => simp [step, nextTurn, hc, hp, hs]

theorem State.busy_eq_false_iff {s : State} : s.busy = false ↔ s.seq = .idle := by
  cases hs : s.seq <;> simp [State.busy, hs]

theorem State.busy_iff {s : State} : s.busy = true ↔ s.seq ≠ .idle := by
  rw [Ne, ← State.busy_eq_false_iff, Bool.not_eq_false]

/-- A step with nothing in progress takes the host's next move, if there is one. -/
theorem stepped_of_idle {s t : State} (hc : cfgWellFormed s.cfg = true) (hp : s.resetPin = false) (hs : s.seq = .idle)
    (h : step s = .next t) : Stepped s t := by
  simp only [step, nextTurn, hc, hp, hs, if_true, Bool.false_eq_true, if_false] at h
  match hh : s.host with
  | [] =>
    simp only [hh] at h
    cases h
    exact .waited hp hs hh rfl
  | .present code :: rest =>
    simp only [hh] at h
    cases hd : decode s.cfg code with
    | ok i =>
      simp only [hd] at h
      exact .executed code rest i hp hs hh hd h
    | error e => simp [hd] at h
  | .xchg out :: rest =>
    simp only [hh] at h
    exact .hostExchanged out rest hp hs hh h
  | .desel :: rest =>
    simp only [hh] at h
    exact .hostDeselected rest hp hs hh h

/-- Everything a step can do: only a well-formed `cfg` is run at all (R11). -/
theorem step_cases {s t : State} (h : step s = .next t) : cfgWellFormed s.cfg = true ∧ Stepped s t := by
  cases hc : cfgWellFormed s.cfg with
  | false => rw [step_of_illFormed hc] at h; cases h
  | true =>
    refine ⟨rfl, ?_⟩
    cases hp : s.resetPin with
    | true => rw [step_of_reset hc hp] at h; cases h; exact .reset hp rfl
    | false =>
      cases hb : s.busy with
      | true => rw [step_of_busy hc hp hb] at h; cases h; exact .carriedOn hp hb rfl
      | false => exact stepped_of_idle hc hp (State.busy_eq_false_iff.mp hb) h

/-! ## What the single updates keep, every step but hardware reset keeps -/

/-- `P` is kept by every update a step is made of, hardware reset apart. -/
structure KeptByUpdates (P : State → Prop) : Prop where
  record : ∀ s e, P s → P (s.record e)
  recordAnswered : ∀ s e, P s → P (s.recordAnswered e)
  setHandle : ∀ s h, P s → P (s.setHandle h)
  setSeq : ∀ s q, P s → P (s.setSeq q)
  setBw : ∀ s b, P s → P (s.setBw b)
  setResponse : ∀ s r, P s → P (s.setResponse r)
  setFrameOpen : ∀ s o, P s → P (s.setFrameOpen o)
  setAnswers : ∀ s as, P s → P (s.setAnswers as)
  setHost : ∀ s ms, P s → P (s.setHost ms)

namespace KeptByUpdates

variable {P : State → Prop} (hP : KeptByUpdates P) {s t : State}
include hP

theorem respond (h : P s) (r : Response) : P (s.respond r) :=
  hP.setResponse _ _ (hP.setBw _ _ (hP.setSeq _ _ h))

theorem finish (h : P s) (op : Instr) (v : Value) : P (s.finish op v) :=
  hP.setFrameOpen _ _ (hP.respond h _)

theorem settle (h : P s) (op : Instr) (k : Nat) (v : Value) (todo : List Micro) : P (s.settle op k v todo) :=
  State.settle_induction s op k v todo h (fun t _ => hP.record t _) (fun t => hP.setBw t _)
    (fun _ ht => hP.finish ht op v) (fun t _ _ => hP.setSeq t _)

theorem afterPoll (h : P s) (op : Instr) (k : Nat) (v : Value) (rest : List Micro) (b : Byte) :
    P (s.afterPoll op k v rest b) := by
  simp only [State.afterPoll]
  split
  · exact hP.settle (hP.setBw _ _ h) op (k + 1) v rest
  · exact hP.respond h _
  all_goals exact hP.setSeq _ _ (hP.setBw _ _ h)

theorem afterDensity (h : P s) (op : Instr) (k : Nat) (v : Value) (rest : List Micro) (b : Byte) :
    P (s.afterDensity op k v rest b) := by
  simp only [State.afterDensity]
  split
  · exact hP.respond (hP.setHandle _ _ h) _
  · split
    · exact hP.respond (hP.setHandle _ _ h) _
    · exact hP.settle h op (k + 1) v _

theorem useBytes (h : P s) (op : Instr) (k : Nat) (v : Value) (rest : List Micro) (inp : Nat → Byte) (u : Use) :
    P (s.useBytes op k v rest inp u) := by
  cases u with
  | poll => exact hP.afterPoll h op k v rest _
  | density => exact hP.afterDensity h op k v rest _
  | latchId index bits => exact hP.settle (hP.setHandle _ _ h) op (k + 1) v rest
  | _ => exact hP.settle h op (k + 1) _ rest

theorem lineEvent (h : P s) (op : Instr) (k : Nat) (v : Value) (rest : List Micro) (e : Event) (ok : Bool) :
    P (s.lineEvent op k v rest e ok) := by
  simp only [State.lineEvent]
  split
  · exact hP.settle (hP.recordAnswered _ _ h) op (k + 1) v rest
  · exact hP.respond (hP.recordAnswered _ _ h) _

theorem exchange (h : P s) (op : Instr) (k : Nat) (v : Value) (rest : List Micro) (out : List Byte) (u : Use)
    (a : Answer) : P (s.exchange op k v rest out u a) := by
  simp only [State.exchange]
  split
  · exact hP.respond (hP.recordAnswered _ _ h) _
  · exact hP.useBytes (hP.recordAnswered _ _ h) op k v rest _ u

theorem resetEvent (h : P s) (op : Instr) (k : Nat) (v : Value) (rest : List Micro) (active needed pin : Bool) :
    P (s.resetEvent op k v rest active needed pin) := by
  simp only [State.resetEvent]
  split
  · exact hP.finish (hP.recordAnswered _ _ h) op _
  · exact hP.settle (hP.recordAnswered _ _ h) op (k + 1) v rest

theorem event (h : P s) (op : Instr) (k : Nat) (v : Value) (a : Answer) (todo : List Micro) :
    P (s.event op k v a todo) := by
  match todo with
  | .desel :: rest => exact hP.lineEvent h op k v rest _ _
  | .sel :: rest => exact hP.lineEvent h op k v rest _ _
  | .xchg out u :: rest => exact hP.exchange h op k v rest out u a
  | .rst active needed :: rest => exact hP.resetEvent h op k v rest active needed _
  | .wp active :: rest => exact hP.settle (hP.recordAnswered _ _ h) op (k + 1) v rest
  | [] | .sleep _ :: _ | .waitStart :: _ => exact hP.settle h op k v _

theorem advance (h : P s) (a : Answer) : P (s.advance a) := by
  unfold State.advance
  split
  · exact h
  · exact hP.event h _ _ _ a _

theorem drive (h : P s) (as : List Answer) : P (s.drive as) :=
  State.drive_induction h (fun _ a _ ht => hP.advance ht a) hP.setAnswers as

theorem resume (h : P s) (hb : s.busy = true) : P s.resume :=
  State.resume_induction h hb (fun _ a _ ht => hP.advance ht a) hP.setAnswers

theorem launch (h : P s) (j : Job) : P (s.launch j) :=
  hP.drive (hP.settle (hP.setResponse _ _ h) j.op 0 j.value j.todo) _

theorem exec {i : Instr} (h : P s) (ht : Machine.exec i s = .next t) : P t := by
  cases exec_cases i s with
  | busy _ hx => rw [hx] at ht; cases ht
  | rejected _ hx => rw [hx] at ht; cases ht; exact hP.respond h _
  | ended _ _ _ _ hx => rw [hx] at ht; cases ht; exact hP.respond (hP.setHandle _ _ h) _
  | modeSet _ _ _ _ _ hx => rw [hx] at ht; cases ht; exact hP.respond (hP.setHandle _ _ h) _
  | setup j _ _ _ _ _ hx => rw [hx] at ht; cases ht; exact hP.launch h j
  | accepted _ j _ _ _ _ _ _ hx => rw [hx] at ht; cases ht; exact hP.launch h j

theorem hostXchg {out : List Byte} (h : P s) (ht : Machine.hostXchg out s = .next t) : P t := by
  unfold Machine.hostXchg at ht
  split at ht
  · cases ht; exact hP.recordAnswered _ _ (hP.setAnswers _ _ h)
  · cases ht

theorem hostDesel (h : P s) (ht : Machine.hostDesel s = .next t) : P t := by
  cases ht; exact hP.recordAnswered _ _ (hP.setAnswers _ _ h)

theorem step (h : P s) (hp : s.resetPin = false) (ht : Machine.step s = .next t) : P t := by
  cases (step_cases ht).2 with
  | reset hp' => rw [hp] at hp'; cases hp'
  | carriedOn _ hb e => rw [e]; exact hP.resume h hb
  | waited _ _ _ e => rw [e]; exact h
  | executed _ rest _ _ _ _ _ hx => exact hP.exec (hP.setHost _ rest h) hx
  | hostExchanged _ rest _ _ _ hx => exact hP.hostXchg (hP.setHost _ rest h) hx
  | hostDeselected rest _ _ _ hx => exact hP.hostDesel (hP.setHost _ rest h) hx

end KeptByUpdates

/-! ## The configuration, the reset input, the trace -/

theorem keptByUpdates_cfg (c : Cfg) : KeptByUpdates fun t => t.cfg = c := by
  constructor <;> exact fun _ _ h => h

theorem keptByUpdates_resetPin (p : Bool) : KeptByUpdates fun t => t.resetPin = p := by
  constructor <;> exact fun _ _ h => h

/-- `t` is reached from `s` by appending events to the trace, and its lines are the fold of those events (R15, R44). -/
def LinesFollow (s t : State) : Prop :=
  ∃ es, t.trace = s.trace ++ es ∧ t.lines = es.foldl Lines.after s.lines

theorem linesFollow_refl (s : State) : LinesFollow s s := ⟨[], by simp, rfl⟩

theorem LinesFollow.record {s t : State} (h : LinesFollow s t) (e : Event) : LinesFollow s (t.record e) := by
  obtain ⟨es, htrace, hlines⟩ := h
  exact ⟨es ++ [e], by simp [htrace], by simp [hlines]⟩

theorem keptByUpdates_linesFollow (s : State) : KeptByUpdates (LinesFollow s) where
  record _ e h := h.record e
  recordAnswered _ e h := h.record e
  setHandle _ _ h := h
  setSeq _ _ h := h
  setBw _ _ h := h
  setResponse _ _ h := h
  setFrameOpen _ _ h := h
  setAnswers _ _ h := h
  setHost _ _ h := h

/-! ## What a row decides without the answers -/

@[simp] theorem State.setAnswers_answers_self (s : State) : s.setAnswers s.answers = s := rfl

/-- What `f` does in `s`, whatever answers are decided: refuse, end at once, or accept one and the same job. -/
inductive BlindToAnswers (f : State → Outcome) (s : State) : Prop
  | busy (h : ∀ xs, f (s.setAnswers xs) = .refused .requestWhileBusy)
  | atOnce (t : State) (ht : t.seq = .idle) (h : ∀ xs, f (s.setAnswers xs) = .next (t.setAnswers xs))
  | accepted (j : Job) (h : ∀ xs, f (s.setAnswers xs) = .next ((s.setAnswers xs).launch j))

theorem blindToAnswers_reject (s : State) : BlindToAnswers (whenIdle State.reject) s := by
  cases hs : s.seq with
  | run op k todo v => exact .busy fun xs => by simp [whenIdle, hs]
  | idle => exact .atOnce s.reject rfl fun xs => by simp only [whenIdle, State.setAnswers_seq, hs]; rfl

theorem blindToAnswers_writeHandle (f : Regs → Handle) (s : State) : BlindToAnswers (writeHandle f) s := by
  cases hs : s.seq with
  | run op k todo v => exact .busy fun xs => by simp [writeHandle, whenIdle, hs]
  | idle =>
    cases hr : s.handle with
    | ready r =>
      exact .atOnce ((s.setHandle (f r)).respond (.ok .unit)) rfl fun xs => by
        simp only [writeHandle, whenIdle, State.setAnswers_seq, State.setAnswers_handle, hs, hr]; rfl
    | _ =>
      exact .atOnce s.reject rfl fun xs => by
        simp only [writeHandle, whenIdle, State.setAnswers_seq, State.setAnswers_handle, hs, hr]; rfl

theorem blindToAnswers_setup (s : State) : BlindToAnswers execSetup s := by
  cases hs : s.seq with
  | run op k todo v => exact .busy fun xs => by simp [execSetup, whenIdle, hs]
  | idle =>
    cases hr : s.handle with
    | uninitialized =>
      exact .accepted ⟨.setup, frame (statusFrame s.cfg) .density, .unit⟩ fun xs => by simp [execSetup, whenIdle, hs, hr]
    | _ =>
      exact .atOnce s.reject rfl fun xs => by
        simp only [execSetup, whenIdle, State.setAnswers_seq, State.setAnswers_handle, hs, hr]; rfl

theorem blindToAnswers_whenReady (plan : Cfg → Regs → Option Job) (s : State) :
    BlindToAnswers (whenReady plan) s := by
  cases hs : s.seq with
  | run op k todo v => exact .busy fun xs => by simp [whenReady, whenIdle, hs]
  | idle =>
    cases hr : s.handle with
    | ready r =>
      cases hj : plan s.cfg r with
      | some j => exact .accepted j fun xs => whenReady_accepts hs hr hj
      | none => exact .atOnce s.reject rfl fun xs => whenReady_rejects_operands hs hr hj
    | _ => exact .atOnce s.reject rfl fun xs => whenReady_rejects_phase hs (by simp [hr, Handle.phase])

theorem blindToAnswers_of_plan {i : Instr} {plan : Cfg → Regs → Option Job}
    (h : ∀ s, exec i s = whenReady plan s) (s : State) : BlindToAnswers (exec i) s :=
  funext h ▸ blindToAnswers_whenReady plan s

theorem blindToAnswers_exec (i : Instr) (s : State) : BlindToAnswers (exec i) s := by
  cases i with
  | setup => exact blindToAnswers_setup s
  | endOp => exact blindToAnswers_writeHandle (fun _ => .uninitialized) s
  | setEraseMode m => exact blindToAnswers_writeHandle (fun r => .ready { r with eraseMode := m }) s
  | reserved17 => exact blindToAnswers_reject s
  | reserved18to1F low => exact blindToAnswers_reject s
  | _ => exact blindToAnswers_of_plan (fun _ => by rw [exec]; rfl) s

/-- Accepting with more answers decided is accepting, and then running on against them (R36, R46). -/
theorem State.launch_append (s : State) (j : Job) (ys : List Answer) :
    (s.setAnswers (s.answers ++ ys)).launch j
      = if (s.launch j).busy then (s.launch j).drive ys
        else (s.launch j).setAnswers ((s.launch j).answers ++ ys) := by
  have hsettle : ((s.setAnswers (s.answers ++ ys)).setResponse none).settle j.op 0 j.value j.todo
      = ((s.setResponse none).settle j.op 0 j.value j.todo).setAnswers (s.answers ++ ys) :=
    State.settle_setAnswers (s.setResponse none) _ _ _ _ _
  rw [State.launch_eq, State.launch_eq, hsettle, State.drive_setAnswers, State.setAnswers_answers, State.drive_append]

/-- An operation left in progress is carried on by the next step, against the answers decided by then. -/
theorem step_setAnswers_of_busy {t : State} {ys : List Answer} (hc : cfgWellFormed t.cfg = true)
    (hp : t.resetPin = false) (hb : t.busy = true) (hys : ys ≠ []) :
    step (t.setAnswers ys) = .next (t.drive ys) := by
  obtain ⟨y, ys, rfl⟩ := List.exists_cons_of_ne_nil hys
  rw [step_of_busy (s := t.setAnswers (y :: ys)) hc hp hb]
  exact congrArg _ (t.drive_setAnswers (y :: ys) (y :: ys))

/-! ## The obligations -/

/-- Settles O13. -/
theorem stepRefusesIllFormedCfg : Obligations.StepRefusesIllFormedCfg := fun _ => step_of_illFormed

/-- Settles O48: the default `cfg` is well formed, there is no handle to judge, and the machine is at rest. -/
theorem resetMeetsInvariant : Obligations.ResetMeetsInvariant := by
  have hcfg : cfgWellFormed State.reset.cfg = true := by decide
  have hhandle : ∀ r, State.reset.handle = .ready r → handleLegal State.reset.cfg r := fun _ h => nomatch h
  exact ⟨hcfg, hhandle, rfl, rfl⟩

/-- Settles O18: hardware reset leaves `cfg` alone, and so does every update any other step is made of. -/
theorem cfgNeverChanges : Obligations.CfgNeverChanges := by
  intro s t h
  cases hp : s.resetPin with
  | true =>
    rw [step_of_reset (step_cases h).1 hp] at h
    cases h; rfl
  | false => exact (keptByUpdates_cfg s.cfg).step rfl hp h

/-- Settles O50: every update a step is made of keeps `LinesFollow`. -/
theorem linesFollowTrace : Obligations.LinesFollowTrace :=
  fun s _ hp h => (keptByUpdates_linesFollow s).step (linesFollow_refl s) hp h

/-- Settles O58: what a row does is chosen without the answers, and a run against `xs ++ ys` is a run against `xs`
that goes on with `ys`. -/
theorem answersInBatchesMakeNoDifference : Obligations.AnswersInBatchesMakeNoDifference := by
  intro i s t ys hc hp hys h
  change (t.seq = .idle → exec i (s.setAnswers (s.answers ++ ys)) = .next (t.setAnswers (t.answers ++ ys)))
    ∧ (t.seq ≠ .idle → exec i (s.setAnswers (s.answers ++ ys)) = step (t.setAnswers ys))
  cases blindToAnswers_exec i s with
  | busy hx => cases h.symm.trans (hx s.answers)
  | atOnce u hu hx =>
    obtain rfl : u.setAnswers s.answers = t := by simpa [h] using (hx s.answers).symm
    exact ⟨fun _ => hx _, fun hne => absurd hu hne⟩
  | accepted j hx =>
    obtain rfl : s.launch j = t := by simpa [h] using (hx s.answers).symm
    rw [hx, State.launch_append]
    constructor
    · intro hidle
      simp [State.busy_eq_false_iff.mpr hidle]
    · intro hne
      have hb := State.busy_iff.mpr hne
      have hcfg : (s.launch j).cfg = s.cfg := (keptByUpdates_cfg s.cfg).launch rfl j
      have hpin : (s.launch j).resetPin = s.resetPin := (keptByUpdates_resetPin s.resetPin).launch rfl j
      rw [if_pos hb, step_setAnswers_of_busy (hcfg ▸ hc) (hpin.trans hp) hb hys]

end Sys2Proof.Machine
end

section
/-! The statements of spec/10_state.md: the invariant of the machine, who writes the handle and moves the phase, what
the erase mode can change, and what the operations of a few frames send and return. -/

namespace Sys2Proof.Machine

open Sys2Proof.Laws.FrameShape (plainFrame_length addressFrame_length)

/-! ## Everything one event of an operation can do -/

/-- The item makes a value of its own the operation's result (R150, R151, R156, R197, R215). -/
def Micro.returns : Micro → Bool
  | .xchg _ .status | .xchg _ .ready | .xchg _ .id | .xchg _ .compare | .rst _ true => true
  | _ => false

/-- The item judges the density or writes the handle (R210). -/
def Micro.setsUp : Micro → Bool
  | .xchg _ .density | .xchg _ (.latchId _ _) => true
  | _ => false

/-- Everything the event at the head of the list can do to `s`, whatever the answer. -/
inductive Advanced (s : State) (op : Instr) (k : Nat) (v : Value) : List Micro → State → Prop
  /-- It was answered `fail` (R242). -/
  | failed (m : Micro) (rest : List Micro) (e : Event) :
      Advanced s op k v (m :: rest) ((s.recordAnswered e).raiseError .transportFailure)
  /-- The operation goes on with the next item. -/
  | wentOn (m : Micro) (rest : List Micro) (e : Event) (v' : Value) (hm : m.setsUp = false)
      (hv : v' = v ∨ m.returns = true) :
      Advanced s op k v (m :: rest) ((s.recordAnswered e).settle op (k + 1) v' rest)
  /-- The poll found the chip ready (R153). -/
  | waitDone (out : List Byte) (rest : List Micro) (e : Event) :
      Advanced s op k v (.xchg out .poll :: rest)
        (((s.recordAnswered e).setBw ⟨.idle, s.bw.count⟩).settle op (k + 1) v rest)
  /-- The poll found the chip busy and the budget is used up (R153 (e)). -/
  | timedOut (out : List Byte) (rest : List Micro) (e : Event) :
      Advanced s op k v (.xchg out .poll :: rest) ((s.recordAnswered e).raiseError .timeout)
  /-- The poll found the chip busy: back to the start of the status frame (R153 (d)). -/
  | polledAgain (out : List Byte) (rest : List Micro) (e : Event) (n : Nat)
      (hn : countLegal s → countLegal (s.setBw ⟨.issue, n⟩)) :
      Advanced s op k v (.xchg out .poll :: rest)
        (((s.recordAnswered e).setBw ⟨.issue, n⟩).setSeq (.run op (k - 2) (poll s.cfg ++ rest) v))
  /-- The density is not supported (R241). -/
  | unsupported (out : List Byte) (rest : List Micro) (e : Event) :
      Advanced s op k v (.xchg out .density :: rest)
        (((s.recordAnswered e).setHandle .failed).raiseError .setupFailure)
  /-- The density is supported: the ID frame comes next (R210). -/
  | supported (out : List Byte) (rest : List Micro) (e : Event) (index : BitVec 3) (f : Bool) (bits : AddressBits)
      (hi : index.toNat ≤ 6) (hb : geometryFor s.cfg.geom index.toNat f = some bits) :
      Advanced s op k v (.xchg out .density :: rest)
        ((s.recordAnswered e).settle op (k + 1) v (frame (idFrame s.cfg) (.latchId index bits) ++ rest))
  /-- The ID bytes are latched (R210). -/
  | latched (out : List Byte) (rest : List Micro) (e : Event) (index : BitVec 3) (bits : AddressBits)
      (inp : Nat → Byte) :
      Advanced s op k v (.xchg out (.latchId index bits) :: rest)
        (((s.recordAnswered e).setHandle (setupHandle index bits inp)).settle op (k + 1) v rest)
  /-- There is no reset pin (R215). -/
  | noPin (active : Bool) (rest : List Micro) (e : Event) :
      Advanced s op k v (.rst active true :: rest) ((s.recordAnswered e).finish op (.bool false))

/-- An index the density rule gives is a row of the geometry table (R130). -/
theorem densityIndex_le {rule : DensityRule} {status : Byte} {i : Nat} (h : densityIndex rule status = some i) :
    i ≤ 6 := by
  cases rule with
  | mask38Shift3 =>
    have hraw : (status.toNat &&& 0x38) >>> 3 ≤ 7 := by
      have : status.toNat &&& 0x38 ≤ 0x38 := Nat.and_le_right
      omega
    simp only [densityIndex, Option.ite_none_left_eq_some, Option.some.injEq] at h
    omega
  | mask3CShift2 =>
    simp only [densityIndex, Option.ite_none_left_eq_some, Option.some.injEq] at h
    omega

theorem afterPoll_advanced (s : State) (op : Instr) (k : Nat) (v : Value) (out : List Byte) (rest : List Micro)
    (e : Event) (status : Byte) :
    Advanced s op k v (.xchg out .poll :: rest) ((s.recordAnswered e).afterPoll op k v rest status) := by
  simp only [State.afterPoll, bwTest, State.recordAnswered_cfg, State.recordAnswered_bw]
  cases hr : rdy status with
  | true => exact .waitDone out rest e
  | false =>
    cases hc : s.cfg.pollBudget with
    | none => exact .polledAgain out rest e s.bw.count id
    | some n =>
      by_cases hn : n ≤ s.bw.count + 1
      · simp only [hn, if_true, Bool.false_eq_true, if_false]
        exact .timedOut out rest e
      · simp only [hn, if_false, Bool.false_eq_true]
        exact .polledAgain out rest e (s.bw.count + 1) fun _ => by
          simp only [countLegal, State.setBw_cfg, State.setBw_bw, hc]; omega

theorem afterDensity_advanced (s : State) (op : Instr) (k : Nat) (v : Value) (out : List Byte) (rest : List Micro)
    (e : Event) (status : Byte) :
    Advanced s op k v (.xchg out .density :: rest) ((s.recordAnswered e).afterDensity op k v rest status) := by
  simp only [State.afterDensity, State.recordAnswered_cfg]
  cases hi : densityIndex s.cfg.densityRule status with
  | none => exact .unsupported out rest e
  | some i =>
    have hle := densityIndex_le hi
    have hnat : (BitVec.ofNat 3 i).toNat = i := by simp only [BitVec.toNat_ofNat]; omega
    dsimp only
    cases hb : geometryFor s.cfg.geom i (psize status) with
    | none => exact .unsupported out rest e
    | some bits =>
      exact .supported out rest e (BitVec.ofNat 3 i) (psize status) bits (hnat.symm ▸ hle) (hnat.symm ▸ hb)

theorem useBytes_advanced (s : State) (op : Instr) (k : Nat) (v : Value) (out : List Byte) (rest : List Micro)
    (e : Event) (inp : Nat → Byte) (u : Use) :
    Advanced s op k v (.xchg out u :: rest) ((s.recordAnswered e).useBytes op k v rest inp u) := by
  cases u with
  | ignore => exact .wentOn _ rest e v rfl (.inl rfl)
  | poll => exact afterPoll_advanced s op k v out rest e _
  | density => exact afterDensity_advanced s op k v out rest e _
  | latchId index bits => exact .latched out rest e index bits inp
  | _ => exact .wentOn _ rest e _ rfl (.inr rfl)

theorem lineEvent_advanced (s : State) (op : Instr) (k : Nat) (v : Value) (m : Micro) (rest : List Micro) (e : Event)
    (ok : Bool) (hm : m.setsUp = false) : Advanced s op k v (m :: rest) (s.lineEvent op k v rest e ok) := by
  cases ok with
  | true => exact .wentOn m rest e v hm (.inl rfl)
  | false => exact .failed m rest e

/-- An operation that stands at an event does what `Advanced` lists. -/
theorem event_advanced (s : State) (op : Instr) (k : Nat) (v : Value) (a : Answer) {todo : List Micro}
    (h : headAnswered todo = true) : Advanced s op k v todo (s.event op k v a todo) := by
  match todo with
  | .desel :: rest => exact lineEvent_advanced s op k v .desel rest _ _ rfl
  | .sel :: rest => exact lineEvent_advanced s op k v .sel rest _ _ rfl
  | .wp active :: rest => exact .wentOn (.wp active) rest _ v rfl (.inl rfl)
  | .xchg out u :: rest =>
    simp only [State.event, State.exchange]
    split
    · exact .failed _ rest _
    · exact useBytes_advanced s op k v out rest _ _ u
  | .rst active needed :: rest =>
    simp only [State.event, State.resetEvent]
    split
    next hp =>
      obtain ⟨rfl, -⟩ := Bool.and_eq_true_iff.mp hp
      exact .noPin active rest _
    next => exact .wentOn (.rst active needed) rest _ v rfl (.inl rfl)
  | [] | .sleep _ :: _ | .waitStart :: _ => cases h

/-! ## An operation under way -/

/-- Where an operation `op` can be that began with handle `h`: in progress with nothing written yet, or ended with what
R34 and R51 let it write. -/
inductive Underway (op : Instr) (h : Handle) (t : State) : Prop
  | running (k : Nat) (todo : List Micro) (v : Value) (hs : t.seq = .run op k todo v) (hr : t.response = none)
      (hh : t.handle = h) (ha : headAnswered todo = true) (hl : todoLegal t.cfg op todo)
  | returned (v : Value) (hop : op ≠ .setup) (hs : t.seq = .idle) (hb : t.bw = .atRest)
      (hr : t.response = some (.ok v)) (hh : t.handle = h)
  | setUp (v : Value) (r : Regs) (hop : op = .setup) (hs : t.seq = .idle) (hb : t.bw = .atRest)
      (hr : t.response = some (.ok v)) (hh : t.handle = .ready r) (hl : handleLegal t.cfg r) (hm : r.eraseMode = .auto)
  | raised (e : ErrorKind) (he : e ≠ .setupFailure) (hs : t.seq = .idle) (hb : t.bw = .atRest)
      (hr : t.response = some (.err e)) (hh : t.handle = h)
  | setupFailed (hop : op = .setup) (hs : t.seq = .idle) (hb : t.bw = .atRest)
      (hr : t.response = some (.err .setupFailure)) (hh : t.handle = .failed)

section underway
variable {op : Instr} {h : Handle}

/-- Items that are neither the last of `setup` nor the reset line's leave a legal list behind them. -/
theorem todoLegal_tail {c : Cfg} {m : Micro} {rest : List Micro} (hm : m.setsUp = false)
    (hl : todoLegal c op (m :: rest)) : todoLegal c op rest := by
  cases m with
  | rst active needed => exact hl.2
  | xchg out u =>
    cases u with
    | density => cases hm
    | latchId index bits => cases hm
    | _ => exact hl
  | _ => exact hl

theorem todoLegal_frame {c : Cfg} {out : List Byte} {u : Use} {rest : List Micro} :
    todoLegal c op (frame out u ++ rest) ↔ todoLegal c op (.xchg out u :: rest) := Iff.rfl

/-- Going on with a legal list keeps an operation under way. -/
theorem underway_settle {t : State} {todo : List Micro} (k : Nat) (v : Value) (hr : t.response = none)
    (hh : t.handle = h) (hl : todoLegal t.cfg op todo) : Underway op h (t.settle op k v todo) := by
  induction todo generalizing t k with
  | nil => exact .returned v hl rfl rfl rfl hh
  | cons m rest ih =>
    cases m with
    | sleep us => exact ih (t := t.record (.sleep us)) (k + 1) hr hh hl
    | waitStart => exact ih (t := t.setBw ⟨.issue, 0⟩) k hr hh hl
    | _ => exact .running k _ v rfl hr hh rfl hl

theorem underway_of_advanced {s t : State} {k : Nat} {v : Value} {todo : List Micro} (hr : s.response = none)
    (hh : s.handle = h) (hl : todoLegal s.cfg op todo) (ht : Advanced s op k v todo t) : Underway op h t := by
  cases ht with
  | failed m rest e => exact .raised .transportFailure (by decide) rfl rfl rfl hh
  | wentOn m rest e v' hm hv =>
    exact underway_settle (t := s.recordAnswered e) (k + 1) v' hr hh (todoLegal_tail hm hl)
  | waitDone out rest e =>
    exact underway_settle (t := (s.recordAnswered e).setBw _) (k + 1) v hr hh (todoLegal_tail rfl hl)
  | timedOut out rest e => exact .raised .timeout (by decide) rfl rfl rfl hh
  | polledAgain out rest e n hn =>
    exact .running (k - 2) (poll s.cfg ++ rest) v rfl hr hh rfl (todoLegal_frame.mpr hl)
  | unsupported out rest e =>
    obtain ⟨-, rfl⟩ := hl
    exact .setupFailed rfl rfl rfl rfl rfl
  | supported out rest e index f bits hi hb =>
    obtain ⟨rfl, rfl⟩ := hl
    exact underway_settle (t := s.recordAnswered e) (k + 1) v hr hh (todoLegal_frame.mpr ⟨rfl, rfl, hi, f, hb⟩)
  | latched out rest e index bits inp =>
    obtain ⟨rfl, rfl, hi, hb⟩ := hl
    exact .setUp v _ rfl rfl rfl rfl rfl ⟨hi, hb⟩ rfl
  | noPin active rest e =>
    obtain ⟨rfl, -⟩ := hl
    exact .returned (.bool false) (by decide) rfl rfl rfl hh

/-- While it is in progress, an operation under way does what `Advanced` lists. -/
theorem Underway.advanced {t : State} (ht : Underway op h t) (hb : t.busy = true) (a : Answer) :
    ∃ k v todo, t.seq = .run op k todo v ∧ Advanced t op k v todo (t.advance a) := by
  cases ht with
  | running k todo v hs hr hh ha hl =>
    refine ⟨k, v, todo, hs, ?_⟩
    rw [State.advance, hs]
    exact event_advanced t op k v a ha
  | returned _ _ hs | setUp _ _ _ hs | raised _ _ hs | setupFailed _ hs => exact absurd hs (State.busy_iff.mp hb)

theorem Underway.advance {t : State} (ht : Underway op h t) (hb : t.busy = true) (a : Answer) :
    Underway op h (t.advance a) := by
  obtain ⟨k, v, todo, hq, hadv⟩ := ht.advanced hb a
  cases ht with
  | running _ _ _ hs hr hh _ hl =>
    cases hs.symm.trans hq
    exact underway_of_advanced hr hh hl hadv
  | returned _ _ hs | setUp _ _ _ hs | raised _ _ hs | setupFailed _ hs => exact absurd hs (State.busy_iff.mp hb)

theorem Underway.setAnswers {t : State} (ht : Underway op h t) (xs : List Answer) :
    Underway op h (t.setAnswers xs) := by
  cases ht with
  | running k todo v hs hr hh ha hl => exact .running k todo v hs hr hh ha hl
  | returned v hop hs hb hr hh => exact .returned v hop hs hb hr hh
  | setUp v r hop hs hb hr hh hl hm => exact .setUp v r hop hs hb hr hh hl hm
  | raised e he hs hb hr hh => exact .raised e he hs hb hr hh
  | setupFailed hop hs hb hr hh => exact .setupFailed hop hs hb hr hh

/-- What each event of an operation keeps, a run against decided answers keeps. -/
theorem Underway.drive {P : State → Prop} {t : State} (ht : Underway op h t) (h0 : P t)
    (hadv : ∀ s k v todo s', s.seq = .run op k todo v → P s → Advanced s op k v todo s' → P s')
    (hset : ∀ s xs, P s → P (s.setAnswers xs)) (as : List Answer) : Underway op h (t.drive as) ∧ P (t.drive as) := by
  refine State.drive_induction (P := fun u => Underway op h u ∧ P u) ⟨ht, h0⟩ (fun u a hb hu => ?_)
    (fun u xs hu => ⟨hu.1.setAnswers xs, hset u xs hu.2⟩) as
  obtain ⟨k, v, todo, hq, ha⟩ := hu.1.advanced hb a
  exact ⟨hu.1.advance hb a, hadv u k v todo _ hq hu.2 ha⟩

/-- What each event of an operation keeps, carrying the operation on keeps. -/
theorem Underway.resume {P : State → Prop} {t : State} (ht : Underway op h t) (hb : t.busy = true) (h0 : P t)
    (hadv : ∀ s k v todo s', s.seq = .run op k todo v → P s → Advanced s op k v todo s' → P s')
    (hset : ∀ s xs, P s → P (s.setAnswers xs)) : Underway op h t.resume ∧ P t.resume := by
  refine State.resume_induction (P := fun u => Underway op h u ∧ P u) ⟨ht, h0⟩ hb (fun u a hb hu => ?_)
    (fun u xs hu => ⟨hu.1.setAnswers xs, hset u xs hu.2⟩)
  obtain ⟨k, v, todo, hq, ha⟩ := hu.1.advanced hb a
  exact ⟨hu.1.advance hb a, hadv u k v todo _ hq hu.2 ha⟩

/-- Accepting an operation with a legal list puts it under way; what going on with its list starts and each event
keeps, holds of the state left. -/
theorem launch_underway {P : State → Prop} {s : State} {j : Job} (hl : todoLegal s.cfg j.op j.todo)
    (h0 : P ((s.setResponse none).settle j.op 0 j.value j.todo))
    (hadv : ∀ s k v todo s', s.seq = .run j.op k todo v → P s → Advanced s j.op k v todo s' → P s')
    (hset : ∀ s xs, P s → P (s.setAnswers xs)) : Underway j.op s.handle (s.launch j) ∧ P (s.launch j) :=
  (underway_settle (t := s.setResponse none) 0 j.value rfl rfl hl).drive h0 hadv hset s.answers

theorem underway_launch {s : State} {j : Job} (hl : todoLegal s.cfg j.op j.todo) :
    Underway j.op s.handle (s.launch j) :=
  (launch_underway (P := fun _ => True) hl trivial (fun _ _ _ _ _ _ _ _ => trivial) fun _ _ _ => trivial).1

/-- No operation but `setup` writes the handle (R51). -/
theorem Underway.handle_eq {t : State} (ht : Underway op h t) (hop : op ≠ .setup) : t.handle = h := by
  cases ht with
  | running _ _ _ _ _ hh => exact hh
  | returned _ _ _ _ _ hh => exact hh
  | raised _ _ _ _ _ hh => exact hh
  | setUp _ _ he => exact absurd he hop
  | setupFailed he => exact absurd he hop

theorem phaseAfter_ready {i : Instr} (hi : i ≠ .endOp) (r : Option Response) : phaseAfter i .ready r = .ready :=
  if_neg hi

/-- The phase an operation leads to, by its response (R34). -/
theorem Underway.phase_eq {t : State} (ht : Underway op h t) (hend : op ≠ .endOp) (hp : h.phase = runPhase op) :
    t.handle.phase = phaseAfter op h.phase t.response := by
  by_cases hop : op = .setup
  · subst hop
    rw [hp]
    cases ht with
    | running _ _ _ _ hr hh => rw [hr, hh, hp]; rfl
    | returned _ hne => exact absurd rfl hne
    | setUp _ _ _ _ _ hr hh => rw [hr, hh]; rfl
    | setupFailed _ _ _ hr hh => rw [hr, hh]; rfl
    | raised e he _ _ hr hh =>
      rw [hr, hh, hp]
      cases e with
      | setupFailure => exact absurd rfl he
      | _ => rfl
  · have hready : h.phase = .ready := by rw [hp, runPhase, if_neg hop]
    rw [ht.handle_eq hop, hready, phaseAfter_ready hend]

/-! ## The busy-wait registers -/

/-- The wait registers are those of an operation outside `BW_TEST`, and the count is within the budget (R37). -/
def BwSound (t : State) : Prop := (t.bw.state = .idle ∨ t.bw.state = .issue) ∧ countLegal t

theorem countLegal_of_zero {t : State} (h0 : t.bw.count = 0) : countLegal t := by
  unfold countLegal
  split
  · exact h0
  · omega

theorem bwSound_of_atRest {t : State} (hb : t.bw = .atRest) : BwSound t :=
  ⟨.inl (by rw [hb]; rfl), countLegal_of_zero (by rw [hb]; rfl)⟩

theorem BwSound.settle {t : State} (ht : BwSound t) (op : Instr) (k : Nat) (v : Value) (todo : List Micro) :
    BwSound (t.settle op k v todo) :=
  State.settle_induction t op k v todo ht (fun _ _ hu => hu) (fun _ _ => ⟨.inr rfl, countLegal_of_zero rfl⟩)
    (fun _ _ => bwSound_of_atRest rfl) (fun _ _ _ hu => hu)

theorem BwSound.advanced {s t : State} {k : Nat} {v : Value} {todo : List Micro} (hs : BwSound s)
    (ht : Advanced s op k v todo t) : BwSound t := by
  cases ht with
  | failed | timedOut | unsupported | noPin => exact bwSound_of_atRest rfl
  | wentOn m rest e v' hm hv => exact BwSound.settle (t := s.recordAnswered e) hs op (k + 1) v' rest
  | waitDone out rest e =>
    exact BwSound.settle (t := (s.recordAnswered e).setBw ⟨.idle, s.bw.count⟩) ⟨.inl rfl, hs.2⟩ op (k + 1) v rest
  | polledAgain out rest e n hn => exact ⟨.inr rfl, hn hs.2⟩
  | supported out rest e index f bits hi hb => exact BwSound.settle (t := s.recordAnswered e) hs op (k + 1) v _
  | latched out rest e index bits inp =>
    exact BwSound.settle (t := (s.recordAnswered e).setHandle _) hs op (k + 1) v rest

/-! ## The invariant -/

theorem eq_setup_of_kindOf {i : Instr} (hk : kindOf i = .setup) : i = .setup := by
  cases i with
  | setup => rfl
  | _ => cases hk

theorem eq_hardReset_of_kindOf {i : Instr} (hk : kindOf i = .hardReset) : i = .hardReset := by
  cases i with
  | hardReset => rfl
  | _ => cases hk

/-- The event list of every kind of operation is legal for it (R51, R215). -/
theorem JobShape.todoLegal {c : Cfg} {k : Kind} {todo : List Micro} {v : Value} (hj : JobShape c k todo v)
    (hk : kindOf op = k) : Machine.todoLegal c op todo := by
  cases hj with
  | setup => exact ⟨rfl, eq_setup_of_kindOf hk⟩
  | hardReset =>
    obtain rfl := eq_hardReset_of_kindOf hk
    exact ⟨rfl, rfl, nofun⟩
  | _ => exact fun he => by rw [he] at hk; cases hk

theorem seqLegal_of_idle {s : State} (hs : s.seq = .idle) (hb : s.bw = .atRest) : seqLegal s := by
  rw [seqLegal, hs]; exact hb

theorem seqLegal_run {s : State} {k : Nat} {todo : List Micro} {v : Value} (hs : s.seq = .run op k todo v) :
    seqLegal s ↔ emitsEvents op = true ∧ s.handle.phase = runPhase op ∧ s.response = none ∧ headAnswered todo = true
      ∧ todoLegal s.cfg op todo ∧ (s.bw.state = .idle ∨ s.bw.state = .issue) := by
  rw [seqLegal, hs]

theorem bw_of_inv_idle {s : State} (hi : s.Inv) (hs : s.seq = .idle) : s.bw = .atRest := by
  obtain ⟨-, -, hseq, -⟩ := hi
  rw [seqLegal, hs] at hseq
  exact hseq

/-- An idle state at rest meets the invariant if its handle does. -/
theorem inv_of_idle {t : State} (hc : cfgWellFormed t.cfg = true) (hl : ∀ r, t.handle = .ready r → handleLegal t.cfg r)
    (hs : t.seq = .idle) (hb : t.bw = .atRest) : t.Inv :=
  ⟨hc, hl, seqLegal_of_idle hs hb, (bwSound_of_atRest hb).2⟩

/-- An operation under way from a legal handle, in its phase, meets the invariant wherever it is. -/
theorem inv_of_underway {t : State} (ht : Underway op h t) (hc : cfgWellFormed t.cfg = true)
    (hl : ∀ r, h = .ready r → handleLegal t.cfg r) (hp : h.phase = runPhase op) (he : emitsEvents op = true)
    (hbw : BwSound t) : t.Inv := by
  cases ht with
  | running k todo v hs hr hh ha htodo =>
    exact ⟨hc, hh ▸ hl, (seqLegal_run hs).mpr ⟨he, hh ▸ hp, hr, ha, htodo, hbw.1⟩, hbw.2⟩
  | returned v hop hs hb hr hh => exact inv_of_idle hc (hh ▸ hl) hs hb
  | setUp v r hop hs hb hr hh hlegal hm =>
    exact inv_of_idle hc (fun r' hr' => by cases hh.symm.trans hr'; exact hlegal) hs hb
  | raised e he hs hb hr hh => exact inv_of_idle hc (hh ▸ hl) hs hb
  | setupFailed hop hs hb hr hh => exact inv_of_idle hc (fun r' hr' => by cases hh.symm.trans hr') hs hb

/-- Every state of the invariant with an operation in progress is one that operation can be in. -/
theorem underway_of_inv {s : State} (hi : s.Inv) {k : Nat} {todo : List Micro} {v : Value}
    (hs : s.seq = .run op k todo v) :
    Underway op s.handle s ∧ s.handle.phase = runPhase op ∧ emitsEvents op = true ∧ BwSound s := by
  obtain ⟨-, -, hseq, hcount⟩ := hi
  obtain ⟨he, hp, hr, ha, hl, hbw⟩ := (seqLegal_run hs).mp hseq
  exact ⟨.running k todo v hs hr rfl ha hl, hp, he, hbw, hcount⟩

theorem underway_resume {s : State} (hi : s.Inv) {k : Nat} {todo : List Micro} {v : Value}
    (hs : s.seq = .run op k todo v) : Underway op s.handle s.resume ∧ BwSound s.resume := by
  obtain ⟨hu, -, -, hbw⟩ := underway_of_inv hi hs
  exact hu.resume (State.busy_iff.mpr (by simp [hs])) hbw (fun _ _ _ _ _ _ hb ha => hb.advanced ha) fun _ _ hb => hb

end underway

theorem inv_resume {s : State} (hi : s.Inv) (hb : s.busy = true) : s.resume.Inv := by
  cases hs : s.seq with
  | idle => exact absurd hs (State.busy_iff.mp hb)
  | run op k todo v =>
    obtain ⟨-, hp, he, -⟩ := underway_of_inv hi hs
    obtain ⟨hu, hbw⟩ := underway_resume hi hs
    have hcfg : s.resume.cfg = s.cfg := (keptByUpdates_cfg s.cfg).resume rfl hb
    exact inv_of_underway hu (hcfg ▸ hi.1) (hcfg ▸ hi.2.1) hp he hbw

theorem inv_launch {s : State} {j : Job} (hi : s.Inv) (hs : s.seq = .idle) (hp : s.handle.phase = runPhase j.op)
    (he : emitsEvents j.op = true) (hl : todoLegal s.cfg j.op j.todo) : (s.launch j).Inv := by
  have hrest : s.bw = .atRest := bw_of_inv_idle hi hs
  have hsound : BwSound (s.setResponse none) := bwSound_of_atRest hrest
  obtain ⟨hu, hbw⟩ := launch_underway hl (hsound.settle j.op 0 j.value j.todo)
    (fun _ _ _ _ _ _ hb ha => hb.advanced ha) fun _ _ hb => hb
  have hcfg : (s.launch j).cfg = s.cfg := (keptByUpdates_cfg s.cfg).launch rfl j
  exact inv_of_underway hu (hcfg ▸ hi.1) (hcfg ▸ hi.2.1) hp he hbw

theorem inv_exec {i : Instr} {s t : State} (hi : s.Inv) (h : exec i s = .next t) : t.Inv := by
  have ⟨hc, hl, _⟩ := hi
  cases exec_cases i s with
  | busy _ hx => cases h.symm.trans hx
  | rejected _ hx => cases h.symm.trans hx; exact inv_of_idle hc hl rfl rfl
  | ended _ _ _ _ hx => cases h.symm.trans hx; exact inv_of_idle hc nofun rfl rfl
  | modeSet r m _ hr _ hx =>
    cases h.symm.trans hx
    exact inv_of_idle hc (fun r' hr' => by cases hr'; exact hl r hr) rfl rfl
  | setup j hs hr _ hj hshape hx =>
    cases h.symm.trans hx
    exact inv_launch hi hs (by rw [hr, hj]; rfl) (by rw [hj]; rfl) (hshape.todoLegal (by rw [hj]; rfl))
  | accepted r j hs hr hk he hns hshape hx =>
    cases h.symm.trans hx
    have hop : j.op ≠ .setup := fun e => hns (by rw [← hk, e]; rfl)
    exact inv_launch hi hs (by rw [hr, runPhase, if_neg hop]; rfl) he (hshape.todoLegal hk)

/-! ## Who writes the handle, and the phases -/

/-- An accepted operation that is not `setup` leaves the handle as it was (R51). -/
theorem handle_launch {s : State} {j : Job} {k : Kind} (hshape : JobShape s.cfg k j.todo j.value)
    (hk : kindOf j.op = k) (hns : k ≠ .setup) : (s.launch j).handle = s.handle := by
  have hop : j.op ≠ .setup := fun e => hns (by rw [← hk, e]; rfl)
  exact (underway_launch (hshape.todoLegal hk)).handle_eq hop

/-- `v` is the value an operation ends with, or would. -/
def ValueStays (v : Value) (t : State) : Prop :=
  match t.seq with
  | .run _ _ todo v' => v' = v ∧ ∀ m ∈ todo, m.returns = false
  | .idle => ∀ v', t.response = some (.ok v') → v' = v

theorem valueStays_idle {v : Value} {t : State} (hs : t.seq = .idle)
    (hr : ∀ v', t.response = some (.ok v') → v' = v) : ValueStays v t := by
  rw [ValueStays, hs]; exact hr

theorem valueStays_settle {v : Value} (t : State) (op : Instr) (k : Nat) {todo : List Micro}
    (hl : ∀ m ∈ todo, m.returns = false) : ValueStays v (t.settle op k v todo) := by
  induction todo generalizing t k with
  | nil => exact fun v' hv' => by cases hv'; rfl
  | cons m rest ih =>
    have hrest := (List.forall_mem_cons.mp hl).2
    cases m with
    | sleep us => exact ih _ (k + 1) hrest
    | waitStart => exact ih _ k hrest
    | _ => exact ⟨rfl, hl⟩

theorem ValueStays.advanced {s t : State} {op : Instr} {k : Nat} {v v' : Value} {todo : List Micro}
    (hq : s.seq = .run op k todo v') (hs : ValueStays v s) (ht : Advanced s op k v' todo t) : ValueStays v t := by
  rw [ValueStays, hq] at hs
  obtain ⟨rfl, hl⟩ := hs
  cases ht with
  | failed | timedOut | unsupported => exact valueStays_idle rfl nofun
  | wentOn m rest e v'' hm hv =>
    obtain ⟨hmr, hrest⟩ := List.forall_mem_cons.mp hl
    obtain rfl : v'' = v' := hv.resolve_right (by simp [hmr])
    exact valueStays_settle _ op (k + 1) hrest
  | waitDone out rest e => exact valueStays_settle _ op (k + 1) (List.forall_mem_cons.mp hl).2
  | polledAgain out rest e n hn =>
    have hrest := (List.forall_mem_cons.mp hl).2
    exact ⟨rfl, by simpa [poll, frame, Micro.returns] using hrest⟩
  | supported out rest e index f bits hi hb =>
    have hrest := (List.forall_mem_cons.mp hl).2
    exact valueStays_settle _ op (k + 1) (by simpa [frame, Micro.returns] using hrest)
  | latched out rest e index bits inp => exact valueStays_settle _ op (k + 1) (List.forall_mem_cons.mp hl).2
  | noPin active rest e => cases (List.forall_mem_cons.mp hl).1

/-- In `Ready` an idle DFCE does not reject `end` (R211). -/
theorem exec_endOp_of_ready {s : State} {r : Regs} (hs : s.seq = .idle) (hr : s.handle = .ready r) :
    exec .endOp s = .next ((s.setHandle .uninitialized).respond (.ok .unit)) := by
  simp [exec, execEnd, writeHandle, whenIdle, hs, hr]

/-- A rejection leaves every phase as it was (R34). -/
theorem phaseAfter_rejected {i : Instr} {s : State} (hs : s.seq = .idle) (h : exec i s = .next s.reject) :
    phaseAfter i s.handle.phase (some (.err .preconditionViolation)) = s.handle.phase := by
  cases hr : s.handle with
  | uninitialized => simp [Handle.phase, phaseAfter]
  | failed => rfl
  | ready r =>
    refine phaseAfter_ready (fun hi => ?_) _
    subst hi
    rw [exec_endOp_of_ready hs hr, Host.Outcome.next.injEq] at h
    cases congrArg State.response h

/-- `setup`, accepted or rejected, writes the handle by its response (R51, R210). -/
theorem exec_setup_handle {s t : State} (h : exec .setup s = .next t) :
    (t.response = some (.ok .unit) ∧ ∃ r, t.handle = .ready r ∧ r.eraseMode = .auto)
    ∨ (t.response = some (.err .setupFailure) ∧ t.handle = .failed)
    ∨ (t.response ≠ some (.ok .unit) ∧ t.response ≠ some (.err .setupFailure) ∧ t.handle = s.handle) := by
  cases exec_cases .setup s with
  | busy _ hx => cases h.symm.trans hx
  | rejected _ hx => cases h.symm.trans hx; exact .inr (.inr ⟨nofun, nofun, rfl⟩)
  | ended _ _ _ hi => cases hi
  | modeSet _ _ _ _ hi => cases hi
  | accepted _ _ _ _ _ _ hns => exact absurd rfl hns
  | setup j hs hr _ hj hshape hx =>
    cases h.symm.trans hx
    obtain ⟨op, todo, v⟩ := j
    obtain rfl : op = .setup := hj
    obtain ⟨hu, hv⟩ := launch_underway (P := ValueStays .unit) (s := s) (hshape.todoLegal rfl)
      (by cases hshape; exact valueStays_settle _ _ _ (by simp [Micro.returns]))
      (fun _ _ _ _ _ hq hv ha => hv.advanced hq ha) fun _ _ hv => hv
    cases hu with
    | running _ _ _ _ hr hh => exact .inr (.inr ⟨by simp [hr], by simp [hr], hh⟩)
    | returned _ hop => exact absurd rfl hop
    | setUp v r _ hs _ hr hh _ hm =>
      rw [ValueStays, hs] at hv
      obtain rfl := hv v hr
      exact .inl ⟨hr, r, hh, hm⟩
    | raised e he _ _ hr hh => exact .inr (.inr ⟨by simp [hr], by simp [hr, he], hh⟩)
    | setupFailed _ _ _ hr hh => exact .inr (.inl ⟨hr, hh⟩)

/-- `set_erase_mode` writes its mode or is rejected (R51, R212). -/
theorem exec_setEraseMode_handle {m : EraseMode} {s t : State} (h : exec (.setEraseMode m) s = .next t) :
    (t.response = some (.ok .unit) ∧ ∃ r, s.handle = .ready r ∧ t.handle = .ready { r with eraseMode := m })
    ∨ (t.response = some (.err .preconditionViolation) ∧ t.handle = s.handle) := by
  cases exec_cases (.setEraseMode m) s with
  | busy _ hx => cases h.symm.trans hx
  | rejected _ hx => cases h.symm.trans hx; exact .inr ⟨rfl, rfl⟩
  | modeSet r _ _ hr hi hx => cases hi; cases h.symm.trans hx; exact .inl ⟨rfl, r, hr, rfl⟩
  | ended _ _ _ hi => cases hi
  | setup _ _ _ hi => cases hi
  | accepted _ _ _ _ _ _ _ hshape => cases hshape

/-- `end` empties the handle or is rejected (R51, R211). -/
theorem exec_endOp_handle {s t : State} (h : exec .endOp s = .next t) :
    (t.response = some (.ok .unit) ∧ t.handle = .uninitialized)
    ∨ (t.response = some (.err .preconditionViolation) ∧ t.handle = s.handle) := by
  cases exec_cases .endOp s with
  | busy _ hx => cases h.symm.trans hx
  | rejected _ hx => cases h.symm.trans hx; exact .inr ⟨rfl, rfl⟩
  | ended _ _ _ _ hx => cases h.symm.trans hx; exact .inl ⟨rfl, rfl⟩
  | modeSet _ _ _ _ hi => cases hi
  | setup _ _ _ hi => cases hi
  | accepted _ _ _ _ _ _ _ hshape => cases hshape

/-- A row outside the write table leaves the handle as it was (R51). -/
theorem exec_handle_eq {i : Instr} {s t : State} (h : exec i s = .next t) (hw : writesHandle i = false) :
    t.handle = s.handle := by
  cases exec_cases i s with
  | busy _ hx => cases h.symm.trans hx
  | rejected _ hx => cases h.symm.trans hx; rfl
  | ended _ _ _ hi => subst hi; cases hw
  | modeSet _ _ _ _ hi => subst hi; cases hw
  | setup _ _ _ hi => subst hi; cases hw
  | accepted _ j _ _ hk _ hns hshape hx => cases h.symm.trans hx; exact handle_launch hshape hk hns

/-- Hardware reset empties the handle (R51, R270). -/
theorem step_reset_handle {s t : State} (hp : s.resetPin = true) (h : step s = .next t) :
    t.handle = .uninitialized := by
  rw [step_of_reset (step_cases h).1 hp] at h
  cases h; rfl

/-- The phase after a row is the table's (R34). -/
theorem exec_phase {i : Instr} {s t : State} (h : exec i s = .next t) :
    t.handle.phase = phaseAfter i s.handle.phase t.response := by
  cases exec_cases i s with
  | busy _ hx => cases h.symm.trans hx
  | rejected hs hx => cases h.symm.trans hx; exact (phaseAfter_rejected hs hx).symm
  | ended _ _ hr hi hx => subst hi; cases h.symm.trans hx; rw [hr]; rfl
  | modeSet _ _ _ hr hi hx => subst hi; cases h.symm.trans hx; rw [hr]; rfl
  | setup j _ hr hi hj hshape hx =>
    subst hi
    cases h.symm.trans hx
    rw [← hj]
    exact (underway_launch (hshape.todoLegal (by rw [hj]; rfl))).phase_eq (by simp [hj]) (by rw [hr, hj]; rfl)
  | accepted r j _ hr hk _ hns hshape hx =>
    cases h.symm.trans hx
    have hend : i ≠ .endOp := fun e => by subst e; cases hshape
    rw [handle_launch hshape hk hns, hr]
    exact (phaseAfter_ready hend _).symm

/-! ## The erase mode -/

/-- `t'` is `t` with another handle of the same phase. -/
def SameButHandle (t t' : State) : Prop := ∃ h, h.phase = t.handle.phase ∧ t' = t.setHandle h

theorem sameButHandle_refl (t : State) : SameButHandle t t := ⟨t.handle, rfl, rfl⟩

namespace SameButHandle

variable {t t' : State} (ht : SameButHandle t t')
include ht

/-- An update that neither reads nor writes the handle. -/
theorem map (f : State → State) (hf : ∀ h, f (t.setHandle h) = (f t).setHandle h) (hh : (f t).handle = t.handle) :
    SameButHandle (f t) (f t') := by
  obtain ⟨h, hp, rfl⟩ := ht
  exact ⟨h, hp.trans (by rw [hh]), hf h⟩

/-- An update that overwrites the handle. -/
theorem overwrite (h : Handle) : t'.setHandle h = t.setHandle h := by
  obtain ⟨h', -, rfl⟩ := ht
  rfl

theorem seq_eq : t'.seq = t.seq := by obtain ⟨h, -, rfl⟩ := ht; rfl
theorem cfg_eq : t'.cfg = t.cfg := by obtain ⟨h, -, rfl⟩ := ht; rfl
theorem bw_eq : t'.bw = t.bw := by obtain ⟨h, -, rfl⟩ := ht; rfl
theorem asked_eq : t'.asked = t.asked := by obtain ⟨h, -, rfl⟩ := ht; rfl
theorem answers_eq : t'.answers = t.answers := by obtain ⟨h, -, rfl⟩ := ht; rfl
theorem busy_eq : t'.busy = t.busy := by obtain ⟨h, -, rfl⟩ := ht; rfl

theorem record (e : Event) : SameButHandle (t.record e) (t'.record e) := ht.map (·.record e) (fun _ => rfl) rfl
theorem recordAnswered (e : Event) : SameButHandle (t.recordAnswered e) (t'.recordAnswered e) :=
  ht.map (·.recordAnswered e) (fun _ => rfl) rfl
theorem setSeq (q : Seq) : SameButHandle (t.setSeq q) (t'.setSeq q) := ht.map (·.setSeq q) (fun _ => rfl) rfl
theorem setBw (b : Bw) : SameButHandle (t.setBw b) (t'.setBw b) := ht.map (·.setBw b) (fun _ => rfl) rfl
theorem setResponse (r : Option Response) : SameButHandle (t.setResponse r) (t'.setResponse r) :=
  ht.map (·.setResponse r) (fun _ => rfl) rfl
theorem setAnswers (xs : List Answer) : SameButHandle (t.setAnswers xs) (t'.setAnswers xs) :=
  ht.map (·.setAnswers xs) (fun _ => rfl) rfl
theorem raiseError (e : ErrorKind) : SameButHandle (t.raiseError e) (t'.raiseError e) :=
  ht.map (·.raiseError e) (fun _ => rfl) rfl
theorem reject : SameButHandle t.reject t'.reject := ht.map State.reject (fun _ => rfl) rfl
theorem finish (op : Instr) (v : Value) : SameButHandle (t.finish op v) (t'.finish op v) :=
  ht.map (·.finish op v) (fun _ => rfl) rfl

theorem settle (op : Instr) (k : Nat) (v : Value) (todo : List Micro) :
    SameButHandle (t.settle op k v todo) (t'.settle op k v todo) := by
  induction todo generalizing t t' k with
  | nil => exact ht.finish op v
  | cons m rest ih =>
    cases m with
    | sleep us => exact ih (ht.record (.sleep us)) (k + 1)
    | waitStart => exact ih (ht.setBw ⟨.issue, 0⟩) k
    | _ => exact ht.setSeq _

theorem afterPoll (op : Instr) (k : Nat) (v : Value) (rest : List Micro) (b : Byte) :
    SameButHandle (t.afterPoll op k v rest b) (t'.afterPoll op k v rest b) := by
  simp only [State.afterPoll, ht.cfg_eq, ht.bw_eq]
  split
  · exact (ht.setBw _).settle op (k + 1) v rest
  · exact ht.raiseError .timeout
  all_goals exact (ht.setBw _).setSeq _

theorem afterDensity (op : Instr) (k : Nat) (v : Value) (rest : List Micro) (b : Byte) :
    SameButHandle (t.afterDensity op k v rest b) (t'.afterDensity op k v rest b) := by
  simp only [State.afterDensity, ht.cfg_eq, ht.overwrite]
  split
  · exact sameButHandle_refl _
  · split
    · exact sameButHandle_refl _
    · exact ht.settle op (k + 1) v _

theorem useBytes (op : Instr) (k : Nat) (v : Value) (rest : List Micro) (inp : Nat → Byte) (u : Use) :
    SameButHandle (t.useBytes op k v rest inp u) (t'.useBytes op k v rest inp u) := by
  cases u with
  | poll => exact ht.afterPoll op k v rest _
  | density => exact ht.afterDensity op k v rest _
  | latchId index bits => simp only [State.useBytes, ht.overwrite]; exact sameButHandle_refl _
  | _ => exact ht.settle op (k + 1) _ rest

theorem lineEvent (op : Instr) (k : Nat) (v : Value) (rest : List Micro) (e : Event) (ok : Bool) :
    SameButHandle (t.lineEvent op k v rest e ok) (t'.lineEvent op k v rest e ok) := by
  cases ok with
  | true => exact (ht.recordAnswered e).settle op (k + 1) v rest
  | false => exact (ht.recordAnswered e).raiseError _

theorem event (op : Instr) (k : Nat) (v : Value) (a : Answer) (todo : List Micro) :
    SameButHandle (t.event op k v a todo) (t'.event op k v a todo) := by
  match todo with
  | .desel :: rest => exact ht.lineEvent op k v rest _ _
  | .sel :: rest => exact ht.lineEvent op k v rest _ _
  | .xchg out u :: rest =>
    simp only [State.event, State.exchange, ht.asked_eq]
    split
    · exact (ht.recordAnswered _).raiseError _
    · exact (ht.recordAnswered _).useBytes op k v rest _ u
  | .rst active needed :: rest =>
    simp only [State.event, State.resetEvent]
    split
    · exact (ht.recordAnswered _).finish op _
    · exact (ht.recordAnswered _).settle op (k + 1) v rest
  | .wp active :: rest => exact (ht.recordAnswered _).settle op (k + 1) v rest
  | [] | .sleep _ :: _ | .waitStart :: _ => exact ht.settle op k v _

theorem advance (a : Answer) : SameButHandle (t.advance a) (t'.advance a) := by
  simp only [State.advance, ht.seq_eq]
  split
  · exact ht
  · exact ht.event _ _ _ a _

theorem drive (as : List Answer) : SameButHandle (t.drive as) (t'.drive as) := by
  induction as generalizing t t' with
  | nil => exact ht.setAnswers []
  | cons a as ih =>
    simp only [State.drive, ht.busy_eq]
    split
    · exact ih (ht.advance a)
    · exact ht.setAnswers _

theorem launch (j : Job) : SameButHandle (t.launch j) (t'.launch j) := by
  rw [State.launch_eq, State.launch_eq, ht.answers_eq]
  exact ((ht.setResponse none).settle j.op 0 j.value j.todo).drive _

end SameButHandle

/-- The registers `r` with the erase mode `m`. -/
def Regs.withMode (r : Regs) (m : EraseMode) : Regs := { r with eraseMode := m }

/-- `f` does the same in `Ready` whatever the erase mode: all but the handle is as it would have been. -/
def ModeBlind (f : State → Outcome) : Prop :=
  ∀ (s : State) (r : Regs) (m : EraseMode) (t : State), s.handle = .ready r → f s = .next t →
    ∃ t', f (s.setHandle (.ready (r.withMode m))) = .next t' ∧ SameButHandle t t'

theorem modeBlind_whenIdle {f : State → State}
    (hf : ∀ (s : State) (r : Regs) (m : EraseMode), s.handle = .ready r →
      SameButHandle (f s) (f (s.setHandle (.ready (r.withMode m))))) : ModeBlind (whenIdle f) := by
  intro s r m t hr h
  cases hs : s.seq with
  | run op k todo v => simp [whenIdle, hs] at h
  | idle =>
    obtain rfl : f s = t := by simpa [whenIdle, hs] using h
    exact ⟨f (s.setHandle (.ready (r.withMode m))), by simp [whenIdle, hs], hf s r m hr⟩

theorem sameButHandle_withMode {s : State} {r : Regs} (m : EraseMode) (hr : s.handle = .ready r) :
    SameButHandle s (s.setHandle (.ready (r.withMode m))) := ⟨.ready (r.withMode m), by rw [hr]; rfl, rfl⟩

theorem modeBlind_whenReady {plan : Cfg → Regs → Option Job} (hp : ∀ c r m, plan c (r.withMode m) = plan c r) :
    ModeBlind (whenReady plan) :=
  modeBlind_whenIdle fun s r m hr => by
    have hs := sameButHandle_withMode m hr
    simp only [hr, State.setHandle_handle, State.setHandle_cfg, hp]
    split
    · exact hs.launch _
    · exact hs.reject

theorem modeBlind_writeHandle {f : Regs → Handle} (hf : ∀ r m, (f (r.withMode m)).phase = (f r).phase) :
    ModeBlind (writeHandle f) :=
  modeBlind_whenIdle fun s r m hr => by
    simp only [hr, State.setHandle_handle]
    exact ⟨f (r.withMode m), hf r m, rfl⟩

theorem modeBlind_setup : ModeBlind execSetup :=
  modeBlind_whenIdle fun s r m hr => by
    simp only [hr, State.setHandle_handle]
    exact (sameButHandle_withMode m hr).reject

theorem modeBlind_reject : ModeBlind (whenIdle State.reject) :=
  modeBlind_whenIdle fun _ _ m hr => (sameButHandle_withMode m hr).reject

theorem modeBlind_of_plan {i : Instr} {plan : Cfg → Regs → Option Job} (h : ∀ s, exec i s = whenReady plan s)
    (hp : ∀ c r m, plan c (r.withMode m) = plan c r) : ModeBlind (exec i) :=
  funext h ▸ modeBlind_whenReady hp

/-- Only the rows of `buffer_to_page` read the erase mode (R35, R102). -/
theorem modeBlind_exec {i : Instr} (hk : kindOf i ≠ .bufferToPage) : ModeBlind (exec i) := by
  cases i with
  | setup => exact modeBlind_setup
  | endOp => exact modeBlind_writeHandle (f := fun _ => .uninitialized) fun _ _ => rfl
  | setEraseMode m => exact modeBlind_writeHandle (f := fun r => .ready { r with eraseMode := m }) fun _ _ => rfl
  | reserved17 => exact modeBlind_reject
  | reserved18to1F low => exact modeBlind_reject
  | bufferToPage | buffer1ToPageWithEraseFrame | buffer2ToPageWithEraseFrame | buffer1ToPageWithoutEraseFrame
  | buffer2ToPageWithoutEraseFrame => exact absurd rfl hk
  | _ => exact modeBlind_of_plan (fun _ => by rw [exec]; rfl) fun _ _ _ => rfl

theorem withMode_cases (s : State) (m : EraseMode) :
    s.withMode m = s ∨ ∃ r, s.handle = .ready r ∧ s.withMode m = s.setHandle (.ready (r.withMode m)) := by
  cases hr : s.handle with
  | ready r => exact .inr ⟨r, rfl, by simp [State.withMode, hr, State.setHandle, Regs.withMode]⟩
  | _ => exact .inl (by simp [State.withMode, hr])

/-! ## Runs of whole operations -/

@[simp] theorem State.settle_frame (s : State) (op : Instr) (k : Nat) (v : Value) (out : List Byte) (u : Use)
    (rest : List Micro) :
    s.settle op k v (frame out u ++ rest) = s.setSeq (.run op k (frame out u ++ rest) v) := rfl

@[simp] theorem State.settle_start (s : State) (op : Instr) (k : Nat) (v : Value) (rest : List Micro) :
    s.settle op k v (start ++ rest) = s.setSeq (.run op k (start ++ rest) v) := rfl

/-- An operation that has returned leaves the answers still to come decided. -/
@[simp] theorem State.drive_finish (s : State) (op : Instr) (v : Value) (as : List Answer) :
    (s.finish op v).drive as = (s.finish op v).setAnswers as := State.drive_idle rfl as

/-- An operation of one frame, let through, whose use of the bytes ends it with `w`. -/
theorem launch_frame {s : State} {op : Instr} {v w : Value} {out : List Byte} {u : Use} {p : Reply} {len : Nat}
    {rest : List Answer} (hp : p.good len) (hout : out.length ≤ len) (hu : u.reads ≤ len)
    (ha : s.answers = p.answers ++ rest)
    (hw : ∀ t : State, t.useBytes op 2 v [] (byteAt p.xchg.bytes) u = t.finish op w) :
    s.launch ⟨op, frame out u, v⟩ = s.returned rest (p.events out) op w := by
  have hrun := (s.setResponse none).drive_frame op 0 v [] out u hp hout hu rest
  rw [State.launch_eq, ha]
  exact hrun.trans (by rw [hw, State.drive_finish]; rfl)

/-- A supported density is followed by the ID frame (R210). -/
theorem State.afterDensity_of_supported {s : State} (op : Instr) (k : Nat) (v : Value) (rest : List Micro)
    {status : Byte} {i : Nat} {b : AddressBits} (hi : densityIndex s.cfg.densityRule status = some i)
    (hb : geometryFor s.cfg.geom i (psize status) = some b) :
    s.afterDensity op k v rest status
      = s.setSeq (.run op (k + 1) (frame (idFrame s.cfg) (.latchId (BitVec.ofNat 3 i) b) ++ rest) v) := by
  simp [State.afterDensity, hi, hb]

/-! ## Operations that send an opcode or an address -/

/-- The widths of a legal handle are those of a row of the table, which a well-formed `cfg` keeps within 24 bits
(R11, R33). -/
theorem buffer_add_page_le {c : Cfg} {r : Regs} (hc : cfgWellFormed c = true) (hl : handleLegal c r) :
    r.bits.buffer + r.bits.page ≤ 24 := by
  obtain ⟨-, f, hf⟩ := hl
  simp only [geometryFor] at hf
  split at hf
  · cases hf
  next g hg =>
    simp only [cfgWellFormed, Bool.and_eq_true, List.all_eq_true] at hc
    obtain ⟨⟨hrows, -⟩, -⟩ := hc
    have hrow := hrows g (by simpa using List.mem_of_getElem? (l := c.geom.toList) (by simpa using hg))
    simp only [rowWellFormed, decide_eq_true_eq] at hrow
    rw [← Option.some.inj hf]
    simp only [AddressBits.buffer, AddressBits.page, BitVec.toNat_ofNat]
    omega

theorem pageOnlyField_eq (b : AddressBits) (page : Operand) :
    pageOnlyField b page = BitVec.ofNat 24 (page.toNat <<< b.buffer) := by
  simp [pageOnlyField, pageField]

/-- A page below `2^pb` is recovered from its field (R105). -/
theorem pageOfField_pageOnlyField {b : AddressBits} {page : Operand} (hb : b.buffer + b.page ≤ 24)
    (hp : page.toNat < 2 ^ b.page) : pageOfField b (pageOnlyField b page) = page := by
  have hlt : page.toNat <<< b.buffer < 2 ^ 24 := by
    calc page.toNat <<< b.buffer = page.toNat * 2 ^ b.buffer := Nat.shiftLeft_eq _ _
      _ < 2 ^ b.page * 2 ^ b.buffer := Nat.mul_lt_mul_of_pos_right hp (Nat.two_pow_pos _)
      _ = 2 ^ (b.buffer + b.page) := by rw [← Nat.pow_add, Nat.add_comm]
      _ ≤ 2 ^ 24 := Nat.pow_le_pow_right (by decide) hb
  rw [pageOfField, pageOnlyField_eq, BitVec.toNat_ofNat, Nat.mod_eq_of_lt hlt, Nat.shiftLeft_shiftRight,
    BitVec.ofNat_toNat, BitVec.setWidth_eq]

/-- A page-only frame of an in-range page is the operation on that page (R105). -/
theorem ofPage_pageOnlyField {job : Operand → Cfg → Regs → Option Job} {c : Cfg} {r : Regs} {page : Operand}
    (hc : cfgWellFormed c = true) (hl : handleLegal c r) (hp : page.toNat < 2 ^ r.bits.page) :
    ofPage job (BitVec.ofNat 24 (page.toNat <<< r.bits.buffer)) c r = job page c r := by
  simp only [← pageOnlyField_eq, ofPage, pageOfField_pageOnlyField (buffer_add_page_le hc hl) hp, jobOfField, if_true]

/-- A run of `compare`: the frame, the start, the wait, and the last status byte (R197). -/
theorem launch_compare {s : State} {op : Instr} {opcode : Byte} {field : Field} {p q : Reply} {d e : Answer}
    {ps : List Reply} {rest : List Answer} (hp : p.good (4 + s.cfg.dummy.compare)) (hd : d.ok = true)
    (he : e.ok = true) (hps : waitEnds s.cfg ps) (hq : q.good (statusLength s.cfg))
    (ha : s.answers = p.answers ++ [d, e] ++ pollAnswers ps ++ q.answers ++ rest) :
    s.launch ⟨op,
        startedFrame opcode field s.cfg.dummy.compare ++ wait s.cfg ++ frame (statusFrame s.cfg) .compare, .unit⟩
      = s.returned rest (p.events (addressFrame opcode field s.cfg.dummy.compare) ++ startEvents
          ++ pollEvents s.cfg ps ++ q.events (statusFrame s.cfg)) op (.bool (!comp q.status)) := by
  let out := addressFrame opcode field s.cfg.dummy.compare
  have hlen : out.length = 4 + s.cfg.dummy.compare := addressFrame_length _ _ _
  let started := ((s.setResponse none).recorded (p.events out)).recorded startEvents
  have htodo : startedFrame opcode field s.cfg.dummy.compare ++ wait s.cfg ++ frame (statusFrame s.cfg) .compare
      = frame out .ignore ++ (start ++ (wait s.cfg ++ (frame (statusFrame s.cfg) .compare ++ []))) := by
    simp [startedFrame, out]
  obtain ⟨b, hwait⟩ := started.settle_wait op 5 .unit (frame (statusFrame s.cfg) .compare ++ []) hps
    (q.answers ++ rest)
  have hstatus := ((started.recorded (pollEvents s.cfg ps)).setBw b).drive_status op 8 .unit [] .compare hq
    (by decide) rest
  have hanswers : s.answers = p.answers ++ (d :: e :: (pollAnswers ps ++ (q.answers ++ rest))) := by simp [ha]
  rw [State.launch_eq, hanswers, htodo, State.settle_frame, State.drive_frame_ignore _ _ _ _ _ _ (hlen ▸ hp),
    State.settle_start, State.drive_start _ _ _ _ _ hd he]
  refine hwait.trans (hstatus.trans ?_)
  rw [State.useBytes, State.settle_nil, State.drive_finish]
  simp [State.returned, State.recorded_append, started, out, Reply.status]

/-! ## The obligations -/

/-- Settles O49: an operation in progress stays under way with sound wait registers, every other turn leaves DFCE idle
and at rest. -/
theorem stepKeepsInvariant : Obligations.StepKeepsInvariant := by
  intro s t hi h
  cases (step_cases h).2 with
  | reset _ e => subst e; exact inv_of_idle hi.1 nofun rfl rfl
  | carriedOn _ hb e => subst e; exact inv_resume hi hb
  | waited _ _ _ e => subst e; exact hi
  | executed _ rest _ _ _ _ _ hx => exact inv_exec (s := s.setHost rest) hi hx
  | hostExchanged _ rest _ _ _ hx =>
    unfold hostXchg at hx
    split at hx
    · cases hx; exact hi
    · cases hx
  | hostDeselected rest _ _ _ hx => cases hx; exact hi

/-- Settles O26: the status frame, whose density is supported, and then the ID frame, whose bytes are latched. -/
theorem setupReadsDensityAndId : Obligations.SetupReadsDensityAndId := by
  intro s p q rest i b hs hu hp hq ha hi hb
  have hexec : exec .setup s = .next (s.launch ⟨.setup, frame (statusFrame s.cfg) .density, .unit⟩) := by
    simp [exec, execSetup, whenIdle, hs, hu]
  let judged := (s.setResponse none).recorded (p.events (statusFrame s.cfg))
  have hstatus := (s.setResponse none).drive_status .setup 0 .unit [] .density hp (by decide) (q.answers ++ rest)
  have hdensity := State.afterDensity_of_supported (s := judged) .setup 2 .unit [] hi hb
  have hid := judged.drive_id .setup 3 .unit [] (.latchId (BitVec.ofNat 3 i) b) hq (Nat.le_refl 5) rest
  rw [hexec, State.launch_eq, ha, List.append_assoc]
  refine congrArg _ (hstatus.trans ((congrArg (·.drive (q.answers ++ rest)) hdensity).trans (hid.trans ?_)))
  rw [← State.recorded_append, State.useBytes, State.settle_nil, State.drive_finish]
  rfl

/-- Settles O29: one status frame whose use ends the operation. -/
theorem isReadyReturnsBit7 : Obligations.IsReadyReturnsBit7 := by
  intro s r p rest ⟨hs, hr⟩ hp ha
  refine (whenReady_accepts (plan := isReadyJob) hs hr rfl).trans (congrArg _ ?_)
  exact launch_frame hp (Nat.le_max_right _ _) (Nat.le_max_left _ _) ha fun _ => rfl

/-- Settles O30: one ID frame whose use ends the operation; the row runs the same plan. -/
theorem readIdReturnsFourBytes : Obligations.ReadIdReturnsFourBytes := by
  intro s r p rest ⟨hs, hr⟩ hp ha v
  have hrun : whenReady readIdJob s = .next (s.returned rest (p.events (idFrame s.cfg)) .readId v) := by
    refine (whenReady_accepts hs hr rfl).trans (congrArg _ ?_)
    exact launch_frame hp (Nat.le_max_right _ _) (Nat.le_max_left _ _) ha fun _ => rfl
  exact ⟨hrun, hrun⟩

/-- Settles O33: a run of busy polls leaves the operation where it stood. -/
theorem waitMayNeverEnd : Obligations.WaitMayNeverEnd := by
  intro s r ps ⟨hs, hr⟩ hc hb ha
  obtain ⟨b, hbs, -, hrun⟩ := ((s.setResponse none).setBw ⟨.issue, 0⟩).drive_polls_busy .waitUntilReady 0 .unit [] hb
    (fun n hn => by cases hc.symm.trans hn) []
  have hlaunch : s.launch ⟨.waitUntilReady, wait s.cfg, .unit⟩ = _ :=
    (congrArg (State.drive _) (ha.trans (List.append_nil _).symm)).trans hrun
  refine ⟨_, (whenReady_accepts (plan := waitUntilReadyJob) hs hr rfl).trans (congrArg _ hlaunch), ?_⟩
  exact ⟨rfl, rfl, hbs rfl, rfl, rfl, rfl⟩

/-- Settles O43: the operation and both rows plan the same job, because the field gives its page back. -/
theorem compareReturnsLastBit6Clear : Obligations.CompareReturnsLastBit6Clear := by
  intro s r b page p d e ps q rest ⟨hs, hr⟩ hc hl hb hpage hp hd he hps hq ha field opcode t
  have hlegal : (bufferNumLegal b && pageInRange r.bits page) = true := by
    simp [bufferNumLegal, pageInRange, hb, hpage]
  have hjob : ∀ {plan : Cfg → Regs → Option Job}, plan s.cfg r = compareJob page b s.cfg r →
      whenReady plan s = .next t := by
    intro plan hplan
    rw [compareJob, jobIf, if_pos hlegal, pageOnlyField_eq] at hplan
    exact (whenReady_accepts hs hr hplan).trans (congrArg _ (launch_compare hp hd he hps hq ha))
  refine ⟨hjob (plan := compareJob page b) rfl, ?_, ?_⟩
  · rintro rfl
    exact hjob (ofPage_pageOnlyField hc hl hpage)
  · rintro rfl
    exact hjob (ofPage_pageOnlyField hc hl hpage)

/-- Settles O44: the frame, then the last deselection; the row runs the same plan. -/
theorem deepPowerDownDeselects : Obligations.DeepPowerDownDeselects := by
  intro s r p d rest ⟨hs, hr⟩ hp hd ha t
  have hlen := plainFrame_length s.cfg.opc.deepPowerDown s.cfg.dummy.deepPowerDown
  have hframe := (s.setResponse none).drive_frame_ignore .deepPowerDown 0 .unit [.desel] _ (hlen ▸ hp) (d :: rest)
  have hrun : whenReady deepPowerDownJob s = .next t := by
    refine (whenReady_accepts hs hr rfl).trans (congrArg _ ?_)
    rw [State.launch_eq, ha, List.append_assoc]
    refine hframe.trans ?_
    rw [State.settle_desel, State.drive_desel _ _ _ _ _ hd, ← State.recorded_append, State.settle_nil,
      State.drive_finish]
    rfl
  refine ⟨hrun, hrun, ?_⟩
  simp [t, State.returned, State.recorded, Lines.after]

/-- Settles O51, row by row; an operation carried on from the invariant is under way. -/
theorem onlyThreeOperationsWriteHandle : Obligations.OnlyThreeOperationsWriteHandle := by
  refine ⟨fun _ _ _ => exec_handle_eq, fun _ _ _ => exec_setEraseMode_handle, fun _ _ => exec_endOp_handle,
    fun _ _ => step_reset_handle, fun _ _ => exec_setup_handle, ?_⟩
  intro s op k todo v hi hs hop
  exact (underway_resume hi hs).1.handle_eq hop

/-- Settles O52: a row by `exec_phase`, an operation carried on from the invariant because it is under way. -/
theorem phaseTransitionTable : Obligations.PhaseTransitionTable := by
  refine ⟨fun _ _ _ => exec_phase, ?_, fun _ _ hp h => by rw [step_reset_handle hp h]; rfl⟩
  intro s op k todo v hi hs
  obtain ⟨-, hp, he, -⟩ := underway_of_inv hi hs
  have hend : op ≠ .endOp := fun e => by subst e; cases he
  exact (underway_resume hi hs).1.phase_eq hend hp

/-- Settles O59: no other row's plan reads the mode, and no event reads the handle. -/
theorem eraseModeOnlySelectsOpcode : Obligations.EraseModeOnlySelectsOpcode := by
  intro i s t m hk h
  obtain ⟨t', ht', hsame⟩ : ∃ t', exec i (s.withMode m) = .next t' ∧ SameButHandle t t' := by
    obtain he | ⟨r, hr, he⟩ := withMode_cases s m
    · exact ⟨t, by rw [he]; exact h, sameButHandle_refl t⟩
    · rw [he]; exact modeBlind_exec hk s r m t hr h
  obtain ⟨h', hp, rfl⟩ := hsame
  exact ⟨_, ht', rfl, rfl, rfl, rfl, rfl, hp⟩

/-- Settles O11, along the branches of `nextTurn`. -/
theorem stepRunsDecodedInstruction : Obligations.StepRunsDecodedInstruction := by
  intro s code rest i hc hp hs hh hd
  simp only [step, nextTurn, hc, hp, hs, hh, hd, if_true, Bool.false_eq_true, if_false, State.setHost]

/-- Settles O14 by `step_of_reset`. -/
theorem hardwareResetEmptiesHandle : Obligations.HardwareResetEmptiesHandle := fun _ => step_of_reset

/-- Settles O15: each value is read off `State.reset`. -/
theorem resetValues : Obligations.ResetValues := ⟨rfl, rfl, rfl, rfl, rfl, rfl⟩

/-- Settles O16, along the branches of `nextTurn`. -/
theorem idleWaitsForRequest : Obligations.IdleWaitsForRequest := by
  intro s hc hp hs hh
  simp only [step, nextTurn, hc, hp, hs, hh, if_true, Bool.false_eq_true, if_false]

/-- Settles O23: of all a row can do, only the refusal happens while an operation is in progress. -/
theorem requestWhileBusyRefused : Obligations.RequestWhileBusyRefused := by
  intro i s hs
  cases exec_cases i s with
  | busy _ hx => exact hx
  | rejected hi | ended _ hi | modeSet _ _ hi | setup _ hi | accepted _ _ hi => exact absurd hi hs

end Sys2Proof.Machine
end

section
/-! The statements of spec/20_memory.md: a field gives back the operands it was built from, and the operations that
leave their frame open send one such field and let the host stream. -/

namespace Sys2Proof.Machine

open Sys2Proof.Laws.FrameShape (addressFrame_length)

/-! ## Widths -/

/-- Widths the geometry gives are those of a row of the table, the buffer's less the page-size flag; a well-formed
`cfg` has only rows whose widths fit their registers (R11, R131). -/
theorem row_of_geometryFor {c : Cfg} {i : Nat} {f : Bool} {b : AddressBits} (hc : cfgWellFormed c = true)
    (hg : geometryFor c.geom i f = some b) :
    ∃ g, c.geom[i]? = some g ∧ rowWellFormed g = true
      ∧ b.buffer = g.buffer - f.toNat ∧ b.page = g.page ∧ b.sector = g.sector := by
  simp only [geometryFor] at hg
  split at hg
  · cases hg
  next g hrow =>
    simp only [cfgWellFormed, Bool.and_eq_true, List.all_eq_true] at hc
    obtain ⟨⟨hrows, -⟩, -⟩ := hc
    have hwf := hrows g (List.mem_of_getElem? (l := c.geom.toList) (i := i) (by simpa using hrow))
    have hbounds := hwf
    simp only [rowWellFormed, decide_eq_true_eq] at hbounds
    rw [← Option.some.inj hg]
    refine ⟨g, hrow, hwf, ?_, ?_, ?_⟩ <;>
      simp only [AddressBits.buffer, AddressBits.page, AddressBits.sector, BitVec.toNat_ofNat] <;> omega

/-- A regular sector is larger than a block: its width leaves more than a block's three page bits (R11). -/
theorem sector_add_three_lt_page {c : Cfg} {i : Nat} {f : Bool} {b : AddressBits} (hc : cfgWellFormed c = true)
    (hg : geometryFor c.geom i f = some b) : b.sector + 3 < b.page := by
  obtain ⟨g, -, hwf, -, hpage, hsector⟩ := row_of_geometryFor hc hg
  simp only [rowWellFormed, decide_eq_true_eq] at hwf
  omega

/-! ## Fields give their operands back -/

/-- A number shifted to its place in the field keeps every bit (R138, R141). -/
theorem toNat_field_shiftLeft {a m k : Nat} (ha : a < 2 ^ m) (hk : m + k ≤ 24) :
    (BitVec.ofNat 24 (a <<< k)).toNat = a <<< k := by
  have hlt : a <<< k < 2 ^ 24 := Nat.lt_of_lt_of_le (Nat.shiftLeft_lt ha) (Nat.pow_le_pow_right (by decide) hk)
  rw [BitVec.toNat_ofNat, Nat.mod_eq_of_lt hlt]

section fields
variable {b : AddressBits}

/-- The field of an in-range page and offset keeps every bit of both (R141). -/
theorem toNat_pageField {page offset : Operand} (hb : b.buffer + b.page ≤ 24) (hp : page.toNat < 2 ^ b.page)
    (ho : offset.toNat < 2 ^ b.buffer) :
    (pageField b page offset).toNat = page.toNat <<< b.buffer ||| offset.toNat := by
  have hlt : page.toNat <<< b.buffer ||| offset.toNat < 2 ^ 24 :=
    Nat.lt_of_lt_of_le (Nat.append_lt ho hp) (Nat.pow_le_pow_right (by decide) hb)
  rw [pageField, BitVec.toNat_ofNat, Nat.mod_eq_of_lt hlt]

theorem pageOfField_pageField {page offset : Operand} (hb : b.buffer + b.page ≤ 24) (hp : page.toNat < 2 ^ b.page)
    (ho : offset.toNat < 2 ^ b.buffer) : pageOfField b (pageField b page offset) = page := by
  rw [pageOfField, toNat_pageField hb hp ho, Nat.shiftRight_or_distrib, Nat.shiftLeft_shiftRight,
    Nat.shiftRight_eq_zero _ _ ho, Nat.or_zero, BitVec.ofNat_toNat, BitVec.setWidth_eq]

theorem offsetOfField_pageField {page offset : Operand} (hb : b.buffer + b.page ≤ 24) (hp : page.toNat < 2 ^ b.page)
    (ho : offset.toNat < 2 ^ b.buffer) : offsetOfField b (pageField b page offset) = offset := by
  have hpage : page.toNat <<< b.buffer % 2 ^ b.buffer = 0 := by rw [Nat.shiftLeft_eq, Nat.mul_mod_left]
  rw [offsetOfField, toNat_pageField hb hp ho, Nat.and_two_pow_sub_one_eq_mod, Nat.or_mod_two_pow, hpage,
    Nat.mod_eq_of_lt ho, Nat.zero_or, BitVec.ofNat_toNat, BitVec.setWidth_eq]

theorem bufferOffsetOfField_offsetField (offset : Operand) : bufferOffsetOfField (offsetField offset) = offset := by
  have hlt : offset.toNat < 2 ^ 24 := Nat.lt_of_lt_of_le offset.isLt (by decide)
  rw [bufferOffsetOfField, offsetField, BitVec.toNat_ofNat, Nat.mod_eq_of_lt hlt, BitVec.ofNat_toNat,
    BitVec.setWidth_eq]

theorem blockOfField_blockField {block : Operand} (hb : b.buffer + b.page ≤ 24) (h3 : 3 ≤ b.page)
    (hblock : block.toNat < 2 ^ (b.page - 3)) : blockOfField b (blockField b block) = block := by
  rw [blockOfField, blockField, toNat_field_shiftLeft hblock (by omega), Nat.shiftLeft_shiftRight,
    BitVec.ofNat_toNat, BitVec.setWidth_eq]

/-! Sectors: the field of 0B has one bit, below every bit a regular sector's field can have (R136). -/

theorem toNat_sectorField_s0B (hb : b.buffer + 3 < 24) : (sectorField b .s0B).toNat = 2 ^ (b.buffer + 3) := by
  rw [sectorField, toNat_field_shiftLeft (m := 1) (by decide) (by omega), Nat.one_shiftLeft]

theorem toNat_sectorField_sn {n : Byte} (hb : b.buffer + b.page ≤ 24) (hs : b.sector ≤ b.page)
    (hn : n.toNat < 2 ^ b.sector) :
    (sectorField b (.sn n)).toNat = n.toNat <<< (b.buffer + b.page - b.sector) := by
  rw [sectorField, toNat_field_shiftLeft hn (by omega)]

theorem toNat_sectorField_s0B_lt_sn {n : Byte} (hb : b.buffer + b.page ≤ 24) (hs : b.sector + 3 < b.page)
    (h1 : 1 ≤ n.toNat) (hn : n.toNat < 2 ^ b.sector) :
    (sectorField b .s0B).toNat < (sectorField b (.sn n)).toNat := by
  rw [toNat_sectorField_s0B (by omega), toNat_sectorField_sn hb (by omega) hn, Nat.shiftLeft_eq]
  calc 2 ^ (b.buffer + 3) < 2 ^ (b.buffer + b.page - b.sector) := Nat.pow_lt_pow_right (by decide) (by omega)
    _ ≤ n.toNat * 2 ^ (b.buffer + b.page - b.sector) := Nat.le_mul_of_pos_left _ h1

theorem sectorField_s0B_ne_s0A (hb : b.buffer + 3 < 24) : sectorField b .s0B ≠ sectorField b .s0A := by
  intro h
  have hpos := Nat.two_pow_pos (b.buffer + 3)
  rw [← toNat_sectorField_s0B hb, h] at hpos
  exact Nat.lt_irrefl 0 hpos

theorem sectorOfField_sectorField {sector : Sector} (hb : b.buffer + b.page ≤ 24) (hs : b.sector + 3 < b.page)
    (hr : sectorInRange b sector = true) : sectorOfField b (sectorField b sector) = sector := by
  cases sector with
  | s0A => rw [sectorOfField, if_pos rfl]
  | s0B => rw [sectorOfField, if_neg (sectorField_s0B_ne_s0A (by omega)), if_pos rfl]
  | illegal => cases hr
  | sn n =>
    obtain ⟨h1, hn⟩ : 1 ≤ n.toNat ∧ n.toNat < 2 ^ b.sector := by simpa [sectorInRange] using hr
    have hlt := toNat_sectorField_s0B_lt_sn hb hs h1 hn
    have h0A : sectorField b (.sn n) ≠ sectorField b .s0A := fun h => by
      rw [h] at hlt
      exact Nat.not_lt_zero _ hlt
    have h0B : sectorField b (.sn n) ≠ sectorField b .s0B := fun h => Nat.lt_irrefl _ (h ▸ hlt)
    rw [sectorOfField, if_neg h0A, if_neg h0B, toNat_sectorField_sn hb (by omega) hn, Nat.shiftLeft_shiftRight,
      BitVec.ofNat_toNat, BitVec.setWidth_eq]

end fields

/-! ## A frame row of an in-range operand is the operation on it -/

theorem ofPageOffset_pageField {job : Operand → Operand → Cfg → Regs → Option Job} {c : Cfg} {r : Regs}
    {page offset : Operand} (hb : r.bits.buffer + r.bits.page ≤ 24) (hp : page.toNat < 2 ^ r.bits.page)
    (ho : offset.toNat < 2 ^ r.bits.buffer) :
    ofPageOffset job (pageField r.bits page offset) c r = job page offset c r := by
  simp only [ofPageOffset, pageOfField_pageField hb hp ho, offsetOfField_pageField hb hp ho, jobOfField, if_true]

theorem ofBufferOffset_offsetField (job : Byte → Operand → Cfg → Regs → Option Job) (bufferNum : Byte)
    (offset : Operand) : ofBufferOffset job bufferNum (offsetField offset) = job bufferNum offset := by
  funext c r
  simp only [ofBufferOffset, bufferOffsetOfField_offsetField, jobOfField, if_true]

/-- A buffer frame of the buffer `bufferNum` does what the operation on that buffer does (R101). -/
theorem whenReady_ofBufferOffset {job : Byte → Operand → Cfg → Regs → Option Job} {bufferNum n : Byte}
    {offset : Operand} {s t : State} (h : whenReady (job bufferNum offset) s = .next t) (hn : bufferNum = n) :
    whenReady (ofBufferOffset job n (offsetField offset)) s = .next t := by
  rw [← hn, ofBufferOffset_offsetField, h]

theorem buffer_operands_legal {b : AddressBits} {bufferNum : Byte} {offset : Operand} (hb : bufferNum.toNat < 2)
    (ho : offset.toNat < 2 ^ b.buffer) : (bufferNumLegal bufferNum && offsetInRange b offset) = true := by
  simp [bufferNumLegal, offsetInRange, hb, ho]

/-! ## Runs that leave the frame open -/

/-- An operation of R170 to R173 that has returned lets the host stream (R175). -/
theorem State.returned_frameOpen {op : Instr} (h : leavesFrameOpen op = true) (s : State) (rest : List Answer)
    (es : List Event) (v : Value) : (s.returned rest es op v).frameOpen = true := by
  simp [State.returned, State.finish, State.setFrameOpen, State.setAnswers, h]

/-- A run of an operation that waits and then sends one frame (R172, R173). -/
theorem launch_wait_frame {s : State} {op : Instr} {v : Value} {out : List Byte} {ps : List Reply} {p : Reply}
    {rest : List Answer} (hps : waitEnds s.cfg ps) (hp : p.good out.length)
    (ha : s.answers = pollAnswers ps ++ p.answers ++ rest) :
    s.launch ⟨op, wait s.cfg ++ frame out .ignore, v⟩
      = s.returned rest (pollEvents s.cfg ps ++ p.events out) op v := by
  let polled := (s.setResponse none).recorded (pollEvents s.cfg ps)
  obtain ⟨b, hwait⟩ := (s.setResponse none).settle_wait op 0 v (frame out .ignore ++ []) hps (p.answers ++ rest)
  have hframe := (polled.setBw b).drive_frame_ignore op 3 v [] out hp rest
  rw [State.launch_eq, ha, List.append_assoc]
  refine hwait.trans (hframe.trans ?_)
  rw [State.settle_nil, State.drive_finish]
  simp [State.returned, State.recorded_append, polled]

/-! ## The obligations -/

/-- Settles O10: no shift loses a bit, because the widths are those of a well-formed row. -/
theorem fieldRecoversOperands : Obligations.FieldRecoversOperands := by
  intro c r hc hl
  have hb := buffer_add_page_le hc hl
  obtain ⟨-, f, hg⟩ := hl
  have hs := sector_add_three_lt_page hc hg
  refine ⟨fun page offset hp ho => ⟨pageOfField_pageField hb hp ho, offsetOfField_pageField hb hp ho⟩,
    bufferOffsetOfField_offsetField, fun block hblock => ?_, fun sector hr => ?_⟩
  · exact blockOfField_blockField hb (by omega) hblock
  · exact sectorOfField_sectorField hb hs hr

/-- Settles O34: one frame whose answer is not used; the row plans the same job, because the field gives its page and
offset back. -/
theorem pageReadSendsFrame : Obligations.PageReadSendsFrame := by
  intro s r page offset p rest ⟨hs, hr⟩ hc hl hpage hoffset hp ha field t
  have hlegal : (pageInRange r.bits page && offsetInRange r.bits offset) = true := by
    simp [pageInRange, offsetInRange, hpage, hoffset]
  have hrun : ∀ {plan : Cfg → Regs → Option Job}, plan s.cfg r = pageReadJob page offset s.cfg r →
      whenReady plan s = .next t := by
    intro plan hplan
    rw [pageReadJob, jobIf, if_pos hlegal] at hplan
    refine (whenReady_accepts hs hr hplan).trans (congrArg _ ?_)
    exact launch_frame hp (Nat.le_of_eq (addressFrame_length _ _ _)) (Nat.zero_le _) ha fun _ => rfl
  exact ⟨hrun (plan := pageReadJob page offset) rfl,
    hrun (ofPageOffset_pageField (buffer_add_page_le hc hl) hpage hoffset), State.returned_frameOpen rfl _ _ _ _⟩

/-- Settles O36: the wait, then one frame; the row of the buffer plans the same job, because the field gives its
offset back. -/
theorem bufferReadWaitsThenSends : Obligations.BufferReadWaitsThenSends := by
  intro s r b offset ps p rest ⟨hs, hr⟩ hb ho hps hp ha field opcode t
  have hrun : whenReady (bufferReadJob b offset) s = .next t := by
    refine (whenReady_accepts hs hr (if_pos (buffer_operands_legal hb ho))).trans (congrArg _ ?_)
    exact launch_wait_frame hps ((addressFrame_length _ _ _).symm ▸ hp) ha
  exact ⟨hrun, whenReady_ofBufferOffset hrun, whenReady_ofBufferOffset hrun, State.returned_frameOpen rfl _ _ _ _⟩

/-- Settles O37, as for the read: the wait, then one frame; the row of the buffer plans the same job. -/
theorem bufferWriteWaitsThenSends : Obligations.BufferWriteWaitsThenSends := by
  intro s r b offset ps p rest ⟨hs, hr⟩ hb ho hps hp ha field opcode t
  have hrun : whenReady (bufferWriteJob b offset) s = .next t := by
    refine (whenReady_accepts hs hr (if_pos (buffer_operands_legal hb ho))).trans (congrArg _ ?_)
    exact launch_wait_frame hps ((addressFrame_length _ _ _).symm ▸ hp) ha
  exact ⟨hrun, whenReady_ofBufferOffset hrun, whenReady_ofBufferOffset hrun, State.returned_frameOpen rfl _ _ _ _⟩

end Sys2Proof.Machine
end

section
/-! The statements of spec/30_encoding.md: decoder and encoder agree, a frame DFCE never sends is rejected, what the
operations send that neither wait nor erase, the protection sequence, and the decoder reset before every exchange. -/

namespace Sys2Proof.Machine

open Sys2Proof.Laws.FrameShape (addressFrame_length magicFrame_length)

/-! ## The opcode map as a table -/

/-- Decoding what follows the opcode `b`. -/
abbrev TailDecoder := Byte → List Byte → Except FrameError Instr

/-- The tail of a frame without an address field. -/
def plainTail (i : Instr) (pads : Nat) : TailDecoder := fun b rest => decodePlain b i pads rest

/-- The tail of a frame with an address field. -/
def addressedTail (i : Field → Instr) (pads : Nat) : TailDecoder := fun b rest => decodeAddressed b i pads rest

/-- The tail of a protection sequence. -/
def magicTail (c : Cfg) : TailDecoder := fun b rest => decodeMagic c (b :: rest)

/-- The opening bytes of R100, each with the format it opens (R97). -/
def frameRows (c : Cfg) : List (Byte × TailDecoder) :=
  [(c.opc.statusRead, plainTail .statusReadFrame c.dummy.status),
   (c.opc.idRead, plainTail .idReadFrame c.dummy.id),
   (c.opc.pageRead, addressedTail .pageReadFrame c.dummy.pageRead),
   (c.opc.arrayRead, addressedTail .arrayReadFrame c.dummy.arrayRead),
   (c.opc.buffer1Read, addressedTail .buffer1ReadFrame c.dummy.bufferRead),
   (c.opc.buffer2Read, addressedTail .buffer2ReadFrame c.dummy.bufferRead),
   (c.opc.buffer1Write, addressedTail .buffer1WriteFrame c.dummy.bufferWrite),
   (c.opc.buffer2Write, addressedTail .buffer2WriteFrame c.dummy.bufferWrite),
   (c.opc.buffer1ToPageWithErase, addressedTail .buffer1ToPageWithEraseFrame c.dummy.bufferToPage),
   (c.opc.buffer2ToPageWithErase, addressedTail .buffer2ToPageWithEraseFrame c.dummy.bufferToPage),
   (c.opc.buffer1ToPageWithoutErase, addressedTail .buffer1ToPageWithoutEraseFrame c.dummy.bufferToPage),
   (c.opc.buffer2ToPageWithoutErase, addressedTail .buffer2ToPageWithoutEraseFrame c.dummy.bufferToPage),
   (c.opc.pageToBuffer1, addressedTail .pageToBuffer1Frame c.dummy.pageToBuffer),
   (c.opc.pageToBuffer2, addressedTail .pageToBuffer2Frame c.dummy.pageToBuffer),
   (c.opc.pageErase, addressedTail .pageEraseFrame c.dummy.pageErase),
   (c.opc.blockErase, addressedTail .blockEraseFrame c.dummy.blockErase),
   (c.opc.sectorErase, addressedTail .sectorEraseFrame c.dummy.sectorErase),
   (c.opc.comparePageToBuffer1, addressedTail .comparePageToBuffer1Frame c.dummy.compare),
   (c.opc.comparePageToBuffer2, addressedTail .comparePageToBuffer2Frame c.dummy.compare),
   (c.opc.deepPowerDown, plainTail .deepPowerDownFrame c.dummy.deepPowerDown),
   (c.opc.resumeFromDeepPowerDown, plainTail .resumeFromDeepPowerDownFrame c.dummy.resume),
   (c.opc.enableSectorProtection.byte0, magicTail c)]

/-- Decoding by the first row that has the opcode. -/
def decodeByRows (b : Byte) (rest : List Byte) : List (Byte × TailDecoder) → Except FrameError Instr
  | [] => .error (.unknownOpcode b)
  | row :: rows => if b = row.1 then row.2 b rest else decodeByRows b rest rows

theorem decodeFrame_cons (c : Cfg) (b : Byte) (rest : List Byte) :
    decodeFrame c (b :: rest) = decodeByRows b rest (frameRows c) := rfl

theorem frameRows_opcodes (c : Cfg) : (frameRows c).map Prod.fst = openingBytes c.opc := rfl

/-- Where the opcodes are distinct, a row reads the frames its opcode opens. -/
theorem decodeByRows_of_mem {rows : List (Byte × TailDecoder)} {row : Byte × TailDecoder} {rest : List Byte}
    (hnodup : (rows.map Prod.fst).Nodup) (hrow : row ∈ rows) :
    decodeByRows row.1 rest rows = row.2 row.1 rest := by
  induction rows with
  | nil => cases hrow
  | cons first rows ih =>
    rw [List.map_cons, List.nodup_cons] at hnodup
    obtain ⟨hfirst, hrows⟩ := hnodup
    obtain rfl | hmem := List.mem_cons.mp hrow
    · exact if_pos rfl
    · have hne : row.1 ≠ first.1 := fun e => hfirst (e ▸ List.mem_map_of_mem hmem)
      exact (if_neg hne).trans (ih hrows hmem)

/-- What is read is read by some row with the opcode. -/
theorem mem_of_decodeByRows_ok {rows : List (Byte × TailDecoder)} {b : Byte} {rest : List Byte} {i : Instr}
    (h : decodeByRows b rest rows = .ok i) : ∃ tail, (b, tail) ∈ rows ∧ tail b rest = .ok i := by
  induction rows with
  | nil => cases h
  | cons first rows ih =>
    by_cases hb : b = first.1
    · subst hb
      exact ⟨first.2, List.mem_cons_self, (if_pos rfl).symm.trans h⟩
    · obtain ⟨tail, hmem, htail⟩ := ih ((if_neg hb).symm.trans h)
      exact ⟨tail, List.mem_cons_of_mem _ hmem, htail⟩

/-! ## The formats -/

theorem fieldOfBytes_bytes3 (field : Field) :
    fieldOfBytes (field.extractLsb' 16 8) (field.extractLsb' 8 8) (field.extractLsb' 0 8) = field := by
  rw [fieldOfBytes, BitVec.extractLsb'_append_extractLsb'_eq_extractLsb' (start₂ := 16) (start₁ := 8) rfl,
    BitVec.extractLsb'_append_extractLsb'_eq_extractLsb' (start₁ := 0) (len₁ := 8) rfl, BitVec.extractLsb'_eq_self]

theorem bytes3_fieldOfBytes (high middle low : Byte) : bytes3 (fieldOfBytes high middle low) = [high, middle, low] := by
  have hhigh : (high ++ middle ++ low).extractLsb' 16 8 = high :=
    (BitVec.extractLsb'_append_eq_of_le (by decide)).trans BitVec.extractLsb'_append_eq_left
  have hmiddle : (high ++ middle ++ low).extractLsb' 8 8 = middle :=
    (BitVec.extractLsb'_append_eq_of_le (by decide)).trans BitVec.extractLsb'_append_eq_right
  have hlow : (high ++ middle ++ low).extractLsb' 0 8 = low := BitVec.extractLsb'_append_eq_right
  rw [bytes3, fieldOfBytes, hhigh, hmiddle, hlow]

theorem decodePlain_eq_ok {b : Byte} {i j : Instr} {pads : Nat} {rest : List Byte} :
    decodePlain b i pads rest = .ok j ↔ rest = zeros pads ∧ i = j := by
  unfold decodePlain
  split <;> simp_all

theorem decodeAddressed_eq_ok {b : Byte} {i : Field → Instr} {pads : Nat} {rest : List Byte} {j : Instr} :
    decodeAddressed b i pads rest = .ok j ↔ ∃ field, rest = bytes3 field ++ zeros pads ∧ i field = j := by
  constructor
  · intro h
    match rest with
    | high :: middle :: low :: tail =>
      simp only [decodeAddressed] at h
      split at h
      next htail =>
        exact ⟨fieldOfBytes high middle low, by rw [bytes3_fieldOfBytes, htail]; rfl, Except.ok.inj h⟩
      next => cases h
    | [] | [_] | [_, _] => cases h
  · rintro ⟨field, rfl, rfl⟩
    simp [decodeAddressed, bytes3, fieldOfBytes_bytes3]

theorem byte3_of_magicFrame_eq {m n : Magic} {pads : Nat} (h : magicFrame m pads = magicFrame n pads) :
    m.byte3 = n.byte3 := by
  simp only [magicFrame, Magic.bytes, List.cons_append, List.cons.injEq] at h
  obtain ⟨-, -, -, hbyte3, -⟩ := h
  exact hbyte3

theorem opcodes_of_cfgWellFormed {c : Cfg} (hc : cfgWellFormed c = true) :
    (openingBytes c.opc).Nodup
      ∧ magicStem c.opc.disableSectorProtection = magicStem c.opc.enableSectorProtection
      ∧ magicStem c.opc.eraseProtectionRegister = magicStem c.opc.enableSectorProtection
      ∧ [c.opc.enableSectorProtection.byte3, c.opc.disableSectorProtection.byte3,
          c.opc.eraseProtectionRegister.byte3].Nodup := by
  simp only [cfgWellFormed, opcodesWellFormed, Bool.and_eq_true, decide_eq_true_eq] at hc
  obtain ⟨⟨-, hopcodes⟩, -⟩ := hc
  exact hopcodes

/-! ## Decoding what the encoder writes -/

theorem decode_encode_of_request {c : Cfg} {i : Instr} {r : Request} (he : encode c i = .request r)
    (h : Laws.FrameShape.Statement i) : decode c (encode c i) = .ok i := by
  have hdecode := h c
  rw [he] at hdecode ⊢
  exact congrArg _ hdecode

section frames
variable {c : Cfg} (hc : cfgWellFormed c = true)
include hc

theorem decodeFrame_of_mem {b : Byte} {tail : TailDecoder} (h : (b, tail) ∈ frameRows c) (rest : List Byte) :
    decodeFrame c (b :: rest) = tail b rest :=
  decodeByRows_of_mem (frameRows_opcodes c ▸ (opcodes_of_cfgWellFormed hc).1) h

theorem decodeFrame_plainFrame {b : Byte} {i : Instr} {pads : Nat} (h : (b, plainTail i pads) ∈ frameRows c) :
    decodeFrame c (plainFrame b pads) = .ok i :=
  (decodeFrame_of_mem hc h _).trans (decodePlain_eq_ok.mpr ⟨rfl, rfl⟩)

theorem decodeFrame_addressFrame {b : Byte} {i : Field → Instr} {pads : Nat}
    (h : (b, addressedTail i pads) ∈ frameRows c) (field : Field) :
    decodeFrame c (addressFrame b field pads) = .ok (i field) :=
  (decodeFrame_of_mem hc h _).trans (decodeAddressed_eq_ok.mpr ⟨field, rfl, rfl⟩)

theorem decodeFrame_magicFrame {m : Magic} (h : magicStem m = magicStem c.opc.enableSectorProtection) :
    decodeFrame c (magicFrame m c.dummy.protection) = decodeMagic c (magicFrame m c.dummy.protection) := by
  have hb : m.byte0 = c.opc.enableSectorProtection.byte0 := (List.cons.inj h).1
  refine decodeFrame_of_mem hc (tail := magicTail c) ?_ _
  simp [frameRows, hb]

theorem decodeFrame_disableSectorProtection :
    decodeFrame c (magicFrame c.opc.disableSectorProtection c.dummy.protection)
      = .ok .disableSectorProtectionFrame := by
  obtain ⟨-, hstem, -, hbyte3⟩ := opcodes_of_cfgWellFormed hc
  have hne : c.opc.disableSectorProtection.byte3 ≠ c.opc.enableSectorProtection.byte3 := fun e => by
    simp [e] at hbyte3
  rw [decodeFrame_magicFrame hc hstem, decodeMagic, if_neg (mt byte3_of_magicFrame_eq hne), if_pos rfl]

theorem decodeFrame_eraseProtectionRegister :
    decodeFrame c (magicFrame c.opc.eraseProtectionRegister c.dummy.protection)
      = .ok .eraseProtectionRegisterFrame := by
  obtain ⟨-, -, hstem, hbyte3⟩ := opcodes_of_cfgWellFormed hc
  have henable : c.opc.eraseProtectionRegister.byte3 ≠ c.opc.enableSectorProtection.byte3 := fun e => by
    simp [e] at hbyte3
  have hdisable : c.opc.eraseProtectionRegister.byte3 ≠ c.opc.disableSectorProtection.byte3 := fun e => by
    simp [e] at hbyte3
  rw [decodeFrame_magicFrame hc hstem, decodeMagic, if_neg (mt byte3_of_magicFrame_eq henable),
    if_neg (mt byte3_of_magicFrame_eq hdisable), if_pos rfl]

end frames

/-! ## Encoding what the decoder reads -/

/-- What the row reads is encoded as the bytes it was read from. -/
def ReadsEncoded (c : Cfg) (row : Byte × TailDecoder) : Prop :=
  ∀ rest i, row.2 row.1 rest = .ok i → encode c i = .frame (row.1 :: rest)

section inverse
variable {c : Cfg} {b : Byte} {pads : Nat}

theorem readsEncoded_plainTail {i : Instr} (he : encode c i = .frame (plainFrame b pads)) :
    ReadsEncoded c (b, plainTail i pads) := by
  intro rest j h
  obtain ⟨rfl, rfl⟩ := decodePlain_eq_ok.mp h
  exact he

theorem readsEncoded_addressedTail {i : Field → Instr}
    (he : ∀ field, encode c (i field) = .frame (addressFrame b field pads)) :
    ReadsEncoded c (b, addressedTail i pads) := by
  intro rest j h
  obtain ⟨field, rfl, rfl⟩ := decodeAddressed_eq_ok.mp h
  exact he field

theorem readsEncoded_magicTail : ReadsEncoded c (b, magicTail c) := by
  intro rest i h
  simp only [magicTail, decodeMagic] at h
  split at h
  next hbytes => cases h; exact congrArg Code.frame hbytes.symm
  next =>
    split at h
    next hbytes => cases h; exact congrArg Code.frame hbytes.symm
    next =>
      split at h
      next hbytes => cases h; exact congrArg Code.frame hbytes.symm
      next => cases h

end inverse

theorem frameRows_readEncoded (c : Cfg) : ∀ row ∈ frameRows c, ReadsEncoded c row := by
  have P := @readsEncoded_plainTail c
  have A := @readsEncoded_addressedTail c
  simp only [frameRows, List.forall_mem_cons]
  exact ⟨P rfl, P rfl, A fun _ => rfl, A fun _ => rfl, A fun _ => rfl, A fun _ => rfl, A fun _ => rfl, A fun _ => rfl,
    A fun _ => rfl, A fun _ => rfl, A fun _ => rfl, A fun _ => rfl, A fun _ => rfl, A fun _ => rfl, A fun _ => rfl,
    A fun _ => rfl, A fun _ => rfl, A fun _ => rfl, A fun _ => rfl, P rfl, P rfl, readsEncoded_magicTail, nofun⟩

/-! ## A frame row of no operand -/

/-- The row of a frame whose field no legal operand encodes to plans nothing (R104). -/
theorem jobOfField_jobIf_eq_none {given field : Field} {legal : Bool} (h : legal = true → field ≠ given)
    (op : Instr) (todo : List Micro) (v : Value) : jobOfField given field (jobIf legal op todo v) = none := by
  unfold jobOfField jobIf
  split
  next he => exact if_neg fun hl => h hl he.symm
  next => rfl

theorem inMode_eq_none {m : EraseMode} {job : Cfg → Regs → Option Job} {c : Cfg} {r : Regs}
    (h : r.eraseMode = m → job c r = none) : inMode m job c r = none :=
  ite_eq_right_iff.mpr h

theorem pageInRange_iff {b : AddressBits} {page : Operand} : pageInRange b page = true ↔ page.toNat < 2 ^ b.page :=
  decide_eq_true_iff

theorem blockInRange_iff {b : AddressBits} {block : Operand} :
    blockInRange b block = true ↔ block.toNat < 2 ^ (b.page - 3) :=
  decide_eq_true_iff

theorem page_offset_legal_iff {b : AddressBits} {page offset : Operand} :
    (pageInRange b page && offsetInRange b offset) = true
      ↔ page.toNat < 2 ^ b.page ∧ offset.toNat < 2 ^ b.buffer := by
  simp [pageInRange, offsetInRange]

theorem buffer_offset_legal_iff {b : AddressBits} {bufferNum : Byte} {offset : Operand} :
    (bufferNumLegal bufferNum && offsetInRange b offset) = true
      ↔ bufferNum.toNat < 2 ∧ offset.toNat < 2 ^ b.buffer := by
  simp [bufferNumLegal, offsetInRange]

theorem buffer_page_legal_iff {b : AddressBits} {bufferNum : Byte} {page : Operand} :
    (bufferNumLegal bufferNum && pageInRange b page) = true ↔ bufferNum.toNat < 2 ∧ page.toNat < 2 ^ b.page := by
  simp [bufferNumLegal, pageInRange]

/-! ## Runs of a frame and a start, and of a protection sequence -/

/-- A run of an operation that sends one frame and starts (R195). -/
theorem launch_startedFrame {s : State} {op : Instr} {v : Value} {opcode : Byte} {field : Field} {pads : Nat}
    {p : Reply} {d e : Answer} {rest : List Answer} (hp : p.good (4 + pads)) (hd : d.ok = true) (he : e.ok = true)
    (ha : s.answers = p.answers ++ [d, e] ++ rest) :
    s.launch ⟨op, startedFrame opcode field pads, v⟩
      = s.returned rest (p.events (addressFrame opcode field pads) ++ startEvents) op v := by
  let out := addressFrame opcode field pads
  have hlen : out.length = 4 + pads := addressFrame_length _ _ _
  have hframe := (s.setResponse none).drive_frame_ignore op 0 v (start ++ []) out (hlen ▸ hp) (d :: e :: rest)
  rw [State.launch_eq, ha, List.append_assoc]
  refine hframe.trans ?_
  rw [State.settle_start, State.drive_start _ _ _ _ _ hd he, ← State.recorded_append, State.settle_nil,
    State.drive_finish]
  rfl

/-- A run of `PROTECT(m)` (R219). -/
theorem launch_protect {s : State} {op : Instr} {m : Magic} {ps : List Reply} {w x d : Answer} {p : Reply}
    {rest : List Answer} (hps : waitEnds s.cfg ps) (hp : p.good (4 + s.cfg.dummy.protection)) (hd : d.ok = true)
    (ha : s.answers = pollAnswers ps ++ [w] ++ p.answers ++ [d, x] ++ rest) :
    s.launch ⟨op, protect s.cfg m, .unit⟩
      = s.returned rest (pollEvents s.cfg ps ++ [.wp true w.pin] ++ p.events (magicFrame m s.cfg.dummy.protection)
          ++ [.desel true, .wp false x.pin]) op .unit := by
  let out := magicFrame m s.cfg.dummy.protection
  have hlen : out.length = 4 + s.cfg.dummy.protection := magicFrame_length _ _
  let sequence : List Micro := .wp true :: (frame out .ignore ++ [.desel, .wp false])
  have htodo : protect s.cfg m = wait s.cfg ++ sequence := by simp [protect, out, sequence]
  have hanswers : s.answers = pollAnswers ps ++ (w :: (p.answers ++ (d :: x :: rest))) := by simp [ha]
  obtain ⟨b, hwait⟩ := (s.setResponse none).settle_wait op 0 .unit sequence hps
    (w :: (p.answers ++ (d :: x :: rest)))
  rw [State.launch_eq, hanswers, htodo]
  refine hwait.trans ?_
  rw [State.settle_wp, State.drive_wp, State.settle_frame, State.drive_frame_ignore _ _ _ _ _ _ (hlen ▸ hp),
    State.settle_desel, State.drive_desel _ _ _ _ _ hd, State.settle_wp, State.drive_wp, State.settle_nil,
    State.drive_finish]
  simp [State.returned, ← State.recorded_append, out]

/-! ## Every exchange comes right after a decoder reset -/

/-- The event an item emits if its call is answered `ok`; what is shifted in and the pin's answer play no part. -/
def Micro.expected : Micro → Option Event
  | .desel => some (.desel true)
  | .sel => some (.sel true)
  | .xchg out _ => some (.xchg out none)
  | .rst active _ => some (.rst active true)
  | .wp active => some (.wp active true)
  | .sleep us => some (.sleep us)
  | .waitStart => none

/-- The events an operation has still to emit if every call is answered `ok`. -/
def Seq.expected : Seq → List Event
  | .idle => []
  | .run _ _ todo _ => todo.filterMap Micro.expected

theorem framed_of_ne_desel {e : Event} (he : e ≠ .desel true) (b : Option Event) (es : List Event) :
    framed (some e) b es = framed none b es := by
  cases es with
  | nil => rfl
  | cons f es => cases f <;> simp [framed, he]

/-- After an event that is no part of a decoder reset, an exchange needs a new one. -/
theorem framed_of_ne_reset {e : Event} (hd : e ≠ .desel true) (hs : e ≠ .sel true) (a : Option Event)
    (es : List Event) : framed a (some e) es = framed none none es := by
  cases es with
  | nil => rfl
  | cons f es => cases f <;> simp [framed, hs, framed_of_ne_desel hd]

/-- What follows an exchange is judged on its own. -/
theorem framed_xchg (a b : Option Event) (out : List Byte) (answer : Option (List Byte)) (es : List Event) :
    framed a b (.xchg out answer :: es)
      = (decide (a = some (.desel true)) && decide (b = some (.sel true)) && framed none none es) := by
  rw [framed, framed_of_ne_reset (e := .xchg out answer) nofun nofun]

/-- Events that may be followed by `fs` may be followed by what is framed wherever `fs` is. -/
theorem framed_append_mono {fs gs : List Event} (h : ∀ a b, framed a b fs = true → framed a b gs = true)
    (es : List Event) : ∀ a b, framed a b (es ++ fs) = true → framed a b (es ++ gs) = true := by
  induction es with
  | nil => exact h
  | cons e es ih =>
    intro a b
    cases e with
    | xchg out answer =>
      simp only [List.cons_append, framed, Bool.and_eq_true]
      exact And.imp_right (ih _ _)
    | _ => exact ih _ _

/-- A whole frame comes with its decoder reset: what follows it is judged on its own. -/
theorem framed_frame (a b : Option Event) (out : List Byte) (u : Use) (rest : List Micro) :
    framed a b ((frame out u ++ rest).filterMap Micro.expected)
      = framed none none (rest.filterMap Micro.expected) := by
  simp [frame, Micro.expected, framed, framed_of_ne_reset]

/-- `t` is reached from `s` by events that, followed by `es`, are framed. -/
def FramedWith (es : List Event) (s t : State) : Prop :=
  ∃ ds, t.trace = s.trace ++ ds ∧ framed none none (ds ++ es) = true

/-- What `t` has emitted since `s` is framed, and stays so if every call still to come is answered `ok`. -/
def FramedSince (s t : State) : Prop := FramedWith t.seq.expected s t

section framed
variable {s t : State} {es fs : List Event}

theorem FramedWith.mono (ht : FramedWith es s t) (h : ∀ a b, framed a b es = true → framed a b fs = true) :
    FramedWith fs s t := by
  obtain ⟨ds, htrace, hds⟩ := ht
  exact ⟨ds, htrace, framed_append_mono h ds none none hds⟩

theorem FramedWith.record {e : Event} (ht : FramedWith (e :: es) s t) : FramedWith es s (t.record e) := by
  obtain ⟨ds, htrace, hds⟩ := ht
  exact ⟨ds ++ [e], by simp [htrace], by simpa using hds⟩

/-- The operation may end wherever it stands. -/
theorem FramedWith.ended (ht : FramedWith es s t) : FramedWith [] s t := ht.mono fun _ _ _ => rfl

theorem FramedWith.settle {todo : List Micro} (op : Instr) (k : Nat) (v : Value)
    (ht : FramedWith (todo.filterMap Micro.expected) s t) : FramedSince s (t.settle op k v todo) := by
  induction todo generalizing t k with
  | nil => exact ht
  | cons m rest ih =>
    cases m with
    | sleep us => exact ih (k + 1) (t := t.record (.sleep us)) ht.record
    | waitStart => exact ih k (t := t.setBw ⟨.issue, 0⟩) ht
    | _ => exact ht

/-- An operation goes on framed after an exchange if it goes on with `rest`, or with as well framed a list. -/
theorem framedSince_useBytes {rest : List Micro} (op : Instr) (k : Nat) (v : Value) (inp : Nat → Byte) (u : Use)
    (ht : ∀ fs, framed none none fs = framed none none (rest.filterMap Micro.expected) → FramedWith fs s t) :
    FramedSince s (t.useBytes op k v rest inp u) := by
  have hrest := ht _ rfl
  have hframe (out : List Byte) (u : Use) := ht _ (framed_frame none none out u rest)
  cases u with
  | poll =>
    simp only [State.useBytes, State.afterPoll]
    split
    · exact FramedWith.settle (t := t.setBw _) op (k + 1) v hrest
    · exact hrest.ended
    all_goals exact hframe (statusFrame t.cfg) .poll
  | density =>
    simp only [State.useBytes, State.afterDensity]
    split
    · exact hrest.ended
    · split
      · exact hrest.ended
      · exact FramedWith.settle op (k + 1) v (hframe _ _)
  | latchId index bits => exact FramedWith.settle (t := t.setHandle _) op (k + 1) v hrest
  | _ => exact hrest.settle op (k + 1) _

/-- Recording an answered exchange where one is expected leaves the rest to be judged on its own. -/
theorem FramedWith.exchanged {out : List Byte} (ht : FramedWith (.xchg out none :: es) s t)
    (answer : Option (List Byte)) (h : framed none none fs = framed none none es) :
    FramedWith fs s (t.recordAnswered (.xchg out answer)) := by
  refine FramedWith.record (ht.mono fun a b => ?_)
  rw [framed_xchg, framed_xchg, h]
  exact id

theorem framedSince_event (op : Instr) (k : Nat) (v : Value) (a : Answer) {todo : List Micro}
    (ht : FramedWith (todo.filterMap Micro.expected) s t) : FramedSince s (t.event op k v a todo) := by
  match todo with
  | .desel :: rest =>
    simp only [State.event, State.lineEvent]
    cases a.ok with
    | true => exact FramedWith.settle (t := t.recordAnswered (.desel true)) op (k + 1) v ht.record
    | false => exact FramedWith.record (e := .desel false) (ht.mono fun _ _ _ => rfl)
  | .sel :: rest =>
    simp only [State.event, State.lineEvent]
    cases a.ok with
    | true => exact FramedWith.settle (t := t.recordAnswered (.sel true)) op (k + 1) v ht.record
    | false => exact FramedWith.record (e := .sel false) (ht.mono fun _ _ _ => rfl)
  | .xchg out u :: rest =>
    simp only [State.event, State.exchange]
    split
    · exact (FramedWith.exchanged ht none rfl).ended
    · exact framedSince_useBytes op k v _ u fun fs => FramedWith.exchanged ht _
  | .rst active needed :: rest =>
    have hgo : FramedWith (rest.filterMap Micro.expected) s (t.recordAnswered (.rst active a.pin)) :=
      FramedWith.record (ht.mono fun _ _ => by simp [Micro.expected, framed, framed_of_ne_reset])
    simp only [State.event, State.resetEvent]
    split
    · exact hgo.ended
    · exact hgo.settle op (k + 1) v
  | .wp active :: rest =>
    have hgo : FramedWith (rest.filterMap Micro.expected) s (t.recordAnswered (.wp active a.pin)) :=
      FramedWith.record (ht.mono fun _ _ => by simp [Micro.expected, framed, framed_of_ne_reset])
    exact hgo.settle op (k + 1) v
  | [] | .sleep _ :: _ | .waitStart :: _ => exact ht.settle op k v

theorem FramedSince.advance (ht : FramedSince s t) (a : Answer) : FramedSince s (t.advance a) := by
  unfold State.advance
  split
  · exact ht
  next hs =>
    rw [FramedSince, hs] at ht
    exact framedSince_event _ _ _ a ht

end framed

/-- The event list of every kind of operation sends each of its frames after a decoder reset (R91). -/
theorem JobShape.framed {c : Cfg} {k : Kind} {todo : List Micro} {v : Value} (hj : JobShape c k todo v) :
    Machine.framed none none (todo.filterMap Micro.expected) = true := by
  cases hj <;> rfl

theorem framedWith_nil_self (s : State) : FramedWith [] s s := ⟨[], by simp, rfl⟩

theorem framedSince_launch {s : State} {j : Job} {k : Kind} (hj : JobShape s.cfg k j.todo j.value) :
    FramedSince s (s.launch j) := by
  have h0 : FramedWith (j.todo.filterMap Micro.expected) s (s.setResponse none) := ⟨[], by simp, hj.framed⟩
  exact State.drive_induction (P := FramedSince s) (h0.settle j.op 0 j.value) (fun _ a _ ht => ht.advance a)
    (fun _ _ ht => ht) s.answers

/-! ## The obligations -/

/-- Settles O1, row by row: the opcodes are distinct, so the row of the table that wrote a frame is the one that reads
it. -/
theorem decodeOfEncodeIsIdentity : Obligations.DecodeOfEncodeIsIdentity := by
  intro c i hc
  have plain := @decodeFrame_plainFrame c hc
  have addressed := @decodeFrame_addressFrame c hc
  cases i with
  | setEraseMode mode => exact decode_encode_of_request rfl (Laws.FrameShape.setEraseMode mode)
  | sectorErase sector => exact decode_encode_of_request rfl (Laws.FrameShape.sectorErase sector)
  | reserved18to1F low => exact decode_encode_of_request rfl (Laws.FrameShape.reserved18to1F low)
  | statusReadFrame => exact plain (by simp [frameRows])
  | idReadFrame => exact plain (by simp [frameRows])
  | pageReadFrame f => exact addressed (by simp [frameRows]) f
  | arrayReadFrame f => exact addressed (by simp [frameRows]) f
  | buffer1ReadFrame f => exact addressed (by simp [frameRows]) f
  | buffer2ReadFrame f => exact addressed (by simp [frameRows]) f
  | buffer1WriteFrame f => exact addressed (by simp [frameRows]) f
  | buffer2WriteFrame f => exact addressed (by simp [frameRows]) f
  | buffer1ToPageWithEraseFrame f => exact addressed (by simp [frameRows]) f
  | buffer2ToPageWithEraseFrame f => exact addressed (by simp [frameRows]) f
  | buffer1ToPageWithoutEraseFrame f => exact addressed (by simp [frameRows]) f
  | buffer2ToPageWithoutEraseFrame f => exact addressed (by simp [frameRows]) f
  | pageToBuffer1Frame f => exact addressed (by simp [frameRows]) f
  | pageToBuffer2Frame f => exact addressed (by simp [frameRows]) f
  | pageEraseFrame f => exact addressed (by simp [frameRows]) f
  | blockEraseFrame f => exact addressed (by simp [frameRows]) f
  | sectorEraseFrame f => exact addressed (by simp [frameRows]) f
  | comparePageToBuffer1Frame f => exact addressed (by simp [frameRows]) f
  | comparePageToBuffer2Frame f => exact addressed (by simp [frameRows]) f
  | deepPowerDownFrame => exact plain (by simp [frameRows])
  | resumeFromDeepPowerDownFrame => exact plain (by simp [frameRows])
  | enableSectorProtectionFrame => exact (decodeFrame_magicFrame hc rfl).trans (if_pos rfl)
  | disableSectorProtectionFrame => exact decodeFrame_disableSectorProtection hc
  | eraseProtectionRegisterFrame => exact decodeFrame_eraseProtectionRegister hc
  | _ => rfl

/-- Settles O2: every row of the table reads only frames the encoder writes. -/
theorem encodeOfDecodedFrame : Obligations.EncodeOfDecodedFrame := by
  intro c bytes i h
  match bytes with
  | [] => cases h
  | b :: rest =>
    obtain ⟨tail, hrow, htail⟩ := mem_of_decodeByRows_ok ((decodeFrame_cons c b rest).symm.trans h)
    exact frameRows_readEncoded c _ hrow rest i htail

/-- Settles O22: the operands the field gives back are out of range or do not encode to it, so the row plans nothing. -/
theorem frameOfNoOperandRejected : Obligations.FrameOfNoOperandRejected := by
  intro s r field ⟨hs, hr⟩
  have reject : ∀ {plan : Cfg → Regs → Option Job}, plan s.cfg r = none → whenReady plan s = .next s.rejected :=
    whenReady_rejects_operands hs hr
  refine ⟨fun h => ?_, fun h => ?_, fun h => ?_, fun h => ?_, fun h => ?_, fun hm => ?_, fun hm => ?_⟩
  · have hnone := jobOfField_jobIf_eq_none fun hlegal =>
      have ⟨hpage, hoffset⟩ := page_offset_legal_iff.mp hlegal
      h (pageOfField r.bits field) (offsetOfField r.bits field) hpage hoffset
    exact ⟨reject (hnone _ _ _), reject (hnone _ _ _)⟩
  · have hnone (n) := jobOfField_jobIf_eq_none fun hlegal =>
      h (bufferOffsetOfField field) (buffer_offset_legal_iff (bufferNum := n).mp hlegal).2
    exact ⟨reject (hnone _ _ _ _), reject (hnone _ _ _ _), reject (hnone _ _ _ _), reject (hnone _ _ _ _)⟩
  · have hnone (n) := jobOfField_jobIf_eq_none fun hlegal =>
      h (pageOfField r.bits field) (buffer_page_legal_iff (bufferNum := n).mp hlegal).2
    have herase := jobOfField_jobIf_eq_none fun hlegal => h (pageOfField r.bits field) (pageInRange_iff.mp hlegal)
    have hmode {m : EraseMode} {n : Byte} : inMode m (ofPage (bufferToPageJob n) field) s.cfg r = none :=
      inMode_eq_none fun _ => hnone n _ _ _
    simp only [List.forall_mem_cons]
    exact ⟨reject hmode, reject hmode, reject hmode, reject hmode, reject (hnone _ _ _ _), reject (hnone _ _ _ _),
      reject (herase _ _ _), reject (hnone _ _ _ _), reject (hnone _ _ _ _), nofun⟩
  · rw [exec, execBlockEraseFrame]
    exact reject (jobOfField_jobIf_eq_none (fun hlegal => h _ (blockInRange_iff.mp hlegal)) _ _ _)
  · rw [exec, execSectorEraseFrame]
    exact reject (jobOfField_jobIf_eq_none (fun hlegal => h _ hlegal) _ _ _)
  · have hne : r.eraseMode ≠ .auto := by rw [hm]; decide
    exact ⟨reject (inMode_eq_none fun e => absurd e hne), reject (inMode_eq_none fun e => absurd e hne)⟩
  · have hne : r.eraseMode ≠ .manual := by rw [hm]; decide
    exact ⟨reject (inMode_eq_none fun e => absurd e hne), reject (inMode_eq_none fun e => absurd e hne)⟩

/-- Settles O28: one status frame whose use ends the operation; the row runs the same plan. -/
theorem readStatusReturnsByte : Obligations.ReadStatusReturnsByte := by
  intro s r p rest ⟨hs, hr⟩ hp ha
  have hrun : whenReady readStatusJob s
      = .next (s.returned rest (p.events (statusFrame s.cfg)) .readStatus (.status (byteAt p.xchg.bytes 1))) := by
    refine (whenReady_accepts hs hr rfl).trans (congrArg _ ?_)
    exact launch_frame hp (Nat.le_max_right _ _) (Nat.le_max_left _ _) ha fun _ => rfl
  exact ⟨hrun, hrun⟩

/-- Settles O35: one frame whose answer is not used; the row plans the same job, because the field gives its page and
offset back. -/
theorem arrayReadSendsFrame : Obligations.ArrayReadSendsFrame := by
  intro s r page offset p rest ⟨hs, hr⟩ hc hl hpage hoffset hp ha field t
  have hlegal : (pageInRange r.bits page && offsetInRange r.bits offset) = true :=
    page_offset_legal_iff.mpr ⟨hpage, hoffset⟩
  have hrun : ∀ {plan : Cfg → Regs → Option Job}, plan s.cfg r = arrayReadJob page offset s.cfg r →
      whenReady plan s = .next t := fun hplan =>
    (whenReady_accepts hs hr (hplan.trans (if_pos hlegal))).trans
      (congrArg _ (launch_frame hp (Nat.le_of_eq (addressFrame_length _ _ _)) (Nat.zero_le _) ha fun _ => rfl))
  exact ⟨hrun (plan := arrayReadJob page offset) rfl,
    hrun (ofPageOffset_pageField (buffer_add_page_le hc hl) hpage hoffset), State.returned_frameOpen rfl _ _ _ _⟩

/-- Settles O38: in the mode its opcode stands for, the row plans the operation's job. -/
theorem bufferToPageStartsTransfer : Obligations.BufferToPageStartsTransfer := by
  intro s r b page p d e rest ⟨hs, hr⟩ hc hl hb hpage hp hd he ha field o t
  have hrun : ∀ {plan : Cfg → Regs → Option Job}, plan s.cfg r = bufferToPageJob b page s.cfg r →
      whenReady plan s = .next (t (bufferToPageOpcode o b r.eraseMode)) := by
    intro plan hplan
    rw [bufferToPageJob, pageOnlyField_eq, jobIf, if_pos (buffer_page_legal_iff.mpr ⟨hb, hpage⟩)] at hplan
    exact (whenReady_accepts hs hr hplan).trans (congrArg _ (launch_startedFrame hp hd he ha))
  have hboth : ∀ m n, b = n → r.eraseMode = m →
      whenReady (bufferToPageJob b page) s = .next (t (bufferToPageOpcode o n m))
      ∧ whenReady (inMode m (ofPage (bufferToPageJob n) field)) s = .next (t (bufferToPageOpcode o n m)) := by
    rintro m n rfl rfl
    exact ⟨hrun rfl, hrun ((if_pos rfl).trans (ofPage_pageOnlyField hc hl hpage))⟩
  exact ⟨hboth .auto 0, hboth .auto 1, hboth .manual 0, hboth .manual 1⟩

/-- Settles O39: the operation and the row of the buffer plan the same job. -/
theorem pageToBufferStartsTransfer : Obligations.PageToBufferStartsTransfer := by
  intro s r b page p d e rest ⟨hs, hr⟩ hc hl hb hpage hp hd he ha field opcode t
  have hrun : ∀ {plan : Cfg → Regs → Option Job}, plan s.cfg r = pageToBufferJob page b s.cfg r →
      whenReady plan s = .next t := by
    intro plan hplan
    rw [pageToBufferJob, pageOnlyField_eq, jobIf, if_pos (buffer_page_legal_iff.mpr ⟨hb, hpage⟩)] at hplan
    exact (whenReady_accepts hs hr hplan).trans (congrArg _ (launch_startedFrame hp hd he ha))
  refine ⟨hrun (plan := pageToBufferJob page b) rfl, ?_, ?_⟩
  · rintro rfl
    exact hrun (ofPage_pageOnlyField hc hl hpage)
  · rintro rfl
    exact hrun (ofPage_pageOnlyField hc hl hpage)

/-- Settles O47: the three operations run `PROTECT(m)` each with its own sequence, and so do their rows. -/
theorem protectionSequence : Obligations.ProtectionSequence := by
  intro s r ps w x p d rest ⟨hs, hr⟩ hps hp hd ha t
  have hrun : ∀ {plan : Cfg → Regs → Option Job} {m : Magic} {op : Instr},
      plan s.cfg r = some ⟨op, protect s.cfg m, .unit⟩ → whenReady plan s = .next (t m op) :=
    fun hplan => (whenReady_accepts hs hr hplan).trans (congrArg _ (launch_protect hps hp hd ha))
  have enable := hrun (plan := enableProtectionJob) rfl
  have disable := hrun (plan := disableProtectionJob) rfl
  have erase := hrun (plan := eraseProtectionJob) rfl
  exact ⟨enable, disable, erase, enable, disable, erase⟩

/-- Settles O54: an accepted event list is framed, and every event keeps what is still to come so. -/
theorem everyXchgFollowsDecoderReset : Obligations.EveryXchgFollowsDecoderReset := by
  intro i s t h
  suffices hend : FramedWith [] s t by simpa [FramedWith] using hend
  cases exec_cases i s with
  | busy _ hx => cases h.symm.trans hx
  | rejected _ hx => cases h.symm.trans hx; exact framedWith_nil_self s
  | ended _ _ _ _ hx => cases h.symm.trans hx; exact framedWith_nil_self s
  | modeSet _ _ _ _ _ hx => cases h.symm.trans hx; exact framedWith_nil_self s
  | setup j _ _ _ _ hj hx => cases h.symm.trans hx; exact (framedSince_launch hj).ended
  | accepted _ j _ _ _ _ _ hj hx => cases h.symm.trans hx; exact (framedSince_launch hj).ended

/-- Settles O3 by running the decoder on each word. -/
theorem specWordsDecode : Obligations.SpecWordsDecode := ⟨rfl, rfl, rfl, rfl, rfl, rfl, rfl⟩

/-- Settles O12, along the branches of `nextTurn`. -/
theorem stepRefusesWhatIsNoFrame : Obligations.StepRefusesWhatIsNoFrame := by
  intro s bytes rest e hc hp hs hh hd
  simp only [step, nextTurn, hc, hp, hs, hh, decode, hd, if_true, Bool.false_eq_true, if_false]

end Sys2Proof.Machine
end

section
/-! The statements of spec/40_encoder_functions.md: the density index, the geometry, the page, block and sector packings,
and the two erases that send a block or a sector. -/

namespace Sys2Proof.Machine

open Sys2Proof.Laws.FrameShape (addressFrame_length)

/-! ## Bytes of a field -/

/-- The three bytes of a field are cut from the number it is cut from (R95). -/
theorem bytes3_ofNat (n : Nat) :
    bytes3 (BitVec.ofNat 24 n) = [BitVec.ofNat 8 (n >>> 16), BitVec.ofNat 8 (n >>> 8), BitVec.ofNat 8 n] := by
  have hcut {k : Nat} (hk : k + 8 ≤ 24) : (BitVec.ofNat 24 n).extractLsb' k 8 = BitVec.ofNat 8 (n >>> k) := by
    refine BitVec.eq_of_getLsbD_eq fun j hj => ?_
    have hkj : k + j < 24 := by omega
    simp only [BitVec.getLsbD_extractLsb', BitVec.getLsbD_ofNat, Nat.testBit_shiftRight, hj, hkj, decide_true, Bool.true_and]
  rw [bytes3, hcut (by decide), hcut (by decide), hcut (by decide), Nat.shiftRight_zero]

/-- A shift past the width leaves nothing. -/
theorem ofNat_shiftLeft_eq_zero {w n k : Nat} (hk : w ≤ k) : BitVec.ofNat w (n <<< k) = 0#w := by
  refine BitVec.eq_of_toNat_eq ?_
  rw [BitVec.toNat_ofNat, BitVec.toNat_zero, Nat.shiftLeft_eq]
  exact Nat.mod_eq_zero_of_dvd ((Nat.pow_dvd_pow 2 hk).mul_left n)

/-! ## The two page bytes -/

section pageBytes
variable {bb page : Nat}

/-- The high byte keeps every bit of an in-range page above the low byte's share (R133). -/
theorem toNat_encodePageAddress_fst (h8 : 8 ≤ bb) (h16 : bb ≤ 16) (hp : page < 2 ^ (24 - bb)) :
    (encodePageAddress page bb).1.toNat = page >>> (16 - bb) := by
  have hlt : page >>> (16 - bb) < 2 ^ 8 := by
    rw [Nat.shiftRight_eq_div_pow, Nat.div_lt_iff_lt_mul (Nat.two_pow_pos _), ← Nat.pow_add]
    exact hp.trans_eq (congrArg _ (by omega))
  rw [encodePageAddress, BitVec.toNat_ofNat, Nat.mod_eq_of_lt hlt]

/-- The low byte, shifted back, holds the page's lowest `16 - bb` bits (R133). -/
theorem toNat_encodePageAddress_snd_shiftRight (h8 : 8 ≤ bb) (h16 : bb ≤ 16) :
    (encodePageAddress page bb).2.toNat >>> (bb - 8) = page % 2 ^ (16 - bb) := by
  have hpow : 2 ^ 8 = 2 ^ (16 - bb) * 2 ^ (bb - 8) := by rw [← Nat.pow_add]; exact congrArg _ (by omega)
  rw [encodePageAddress, BitVec.toNat_ofNat, Nat.shiftLeft_eq, hpow, Nat.mul_mod_mul_right,
    Nat.shiftRight_eq_div_pow, Nat.mul_div_cancel _ (Nat.two_pow_pos _)]

end pageBytes

/-! ## The density index -/

/-- Masking `w` bits in place and shifting them down leaves those `w` bits. -/
theorem and_mask_shiftRight (n w k : Nat) : (n &&& (2 ^ w - 1) <<< k) >>> k = n >>> k % 2 ^ w := by
  rw [Nat.shiftRight_and_distrib, Nat.shiftLeft_shiftRight, Nat.and_two_pow_sub_one_eq_mod]

/-- The raw code of `MASK38_SHIFT3` is bits 5 to 3 of the status byte (R130). -/
theorem mask38Shift3_eq (s : Byte) : (s.toNat &&& 0x38) >>> 3 = (s.extractLsb' 3 3).toNat := by
  rw [BitVec.extractLsb'_toNat]
  exact and_mask_shiftRight s.toNat 3 3

/-- The raw code of `MASK3C_SHIFT2` is the density code of the status byte (R40, R130). -/
theorem mask3CShift2_eq (s : Byte) : (s.toNat &&& 0x3C) >>> 2 = (dens s).toNat := by
  rw [dens, BitVec.extractLsb'_toNat]
  exact and_mask_shiftRight s.toNat 4 2

/-! ## Widths and fields of a geometry -/

theorem buffer_add_page_le_of_geometryFor {c : Cfg} {i : Nat} {f : Bool} {b : AddressBits}
    (hc : cfgWellFormed c = true) (hg : geometryFor c.geom i f = some b) : b.buffer + b.page ≤ 24 := by
  obtain ⟨g, -, hwf, hbuffer, hpage, -⟩ := row_of_geometryFor hc hg
  simp only [rowWellFormed, decide_eq_true_eq] at hwf
  omega

section fields
variable {b : AddressBits}

/-- A number shifted to its place in the field stays below the array's size (R141). -/
theorem toNat_field_shiftLeft_lt {a m k : Nat} (ha : a < 2 ^ m) (hk : m + k ≤ b.buffer + b.page)
    (hb : b.buffer + b.page ≤ 24) : (BitVec.ofNat 24 (a <<< k)).toNat < 2 ^ (b.buffer + b.page) := by
  rw [toNat_field_shiftLeft ha (by omega)]
  exact Nat.lt_of_lt_of_le (Nat.shiftLeft_lt ha) (Nat.pow_le_pow_right (by decide) hk)

/-- The one bit of 0B's field lies below every bit of a regular sector's (R136). -/
theorem sectorField_s0B_and_sn {n : Byte} (hb : b.buffer + b.page ≤ 24) (hs : b.sector + 3 < b.page)
    (hn : n.toNat < 2 ^ b.sector) : sectorField b .s0B &&& sectorField b (.sn n) = 0 := by
  have hbit : (n.toNat <<< (b.buffer + b.page - b.sector)).testBit (b.buffer + 3) = false := by
    rw [Nat.testBit_shiftLeft, decide_eq_false (by omega), Bool.false_and]
  refine BitVec.eq_of_toNat_eq ?_
  rw [BitVec.toNat_and, toNat_sectorField_s0B (by omega), toNat_sectorField_sn hb (by omega) hn, Nat.two_pow_and, hbit]
  rfl

theorem sectorInRange_sn_iff {n : Byte} :
    sectorInRange b (.sn n) = true ↔ 1 ≤ n.toNat ∧ n.toNat < 2 ^ b.sector :=
  decide_eq_true_iff

/-- In-range sectors have different fields, since a field gives its sector back (R136). -/
theorem sectorField_injective {x y : Sector} (hb : b.buffer + b.page ≤ 24) (hs : b.sector + 3 < b.page)
    (hx : sectorInRange b x = true) (hy : sectorInRange b y = true) (h : sectorField b x = sectorField b y) : x = y := by
  rw [← sectorOfField_sectorField hb hs hx, h, sectorOfField_sectorField hb hs hy]

end fields

/-! ## Runs of a wait, a frame and a start -/

/-- A frame row whose operand encodes to the field it was given plans that operand's job (R105). -/
theorem jobOfField_self (field : Field) (j : Option Job) : jobOfField field field j = j := if_pos rfl

/-- A run of an erase: the wait, one frame, and the start (R192 to R195). -/
theorem launch_wait_startedFrame {s : State} {op : Instr} {v : Value} {opcode : Byte} {field : Field} {pads : Nat}
    {ps : List Reply} {p : Reply} {d e : Answer} {rest : List Answer} (hps : waitEnds s.cfg ps)
    (hp : p.good (4 + pads)) (hd : d.ok = true) (he : e.ok = true)
    (ha : s.answers = pollAnswers ps ++ p.answers ++ [d, e] ++ rest) :
    s.launch ⟨op, wait s.cfg ++ startedFrame opcode field pads, v⟩
      = s.returned rest (pollEvents s.cfg ps ++ p.events (addressFrame opcode field pads) ++ startEvents) op v := by
  let out := addressFrame opcode field pads
  have hlen : out.length = 4 + pads := addressFrame_length _ _ _
  have htodo : wait s.cfg ++ startedFrame opcode field pads = wait s.cfg ++ (frame out .ignore ++ (start ++ [])) := by
    simp [startedFrame, out]
  have hanswers : s.answers = pollAnswers ps ++ (p.answers ++ (d :: e :: rest)) := by simp [ha]
  obtain ⟨b, hwait⟩ := (s.setResponse none).settle_wait op 0 v (frame out .ignore ++ (start ++ [])) hps
    (p.answers ++ (d :: e :: rest))
  rw [State.launch_eq, hanswers, htodo]
  refine hwait.trans ?_
  rw [State.settle_frame, State.drive_frame_ignore _ _ _ _ _ _ (hlen ▸ hp), State.settle_start,
    State.drive_start _ _ _ _ _ hd he, State.settle_nil, State.drive_finish]
  simp [State.returned, ← State.recorded_append, out]

/-! ## The obligations -/

/-- Settles O4: each of the three bytes is cut from the field, where the page and the offset share no bit. -/
theorem byteFormEqualsFieldForm : Obligations.ByteFormEqualsFieldForm := by
  intro bb page offset h8 h16 hp ho
  have hfield : (page <<< bb ||| offset) < 2 ^ 24 :=
    (Nat.append_lt ho hp).trans_eq (congrArg _ (by omega))
  have hhigh : (page <<< bb ||| offset) >>> 16 = page >>> (16 - bb) := by
    have hoffset : offset >>> 16 = 0 :=
      Nat.shiftRight_eq_zero _ _ (Nat.lt_of_lt_of_le ho (Nat.pow_le_pow_right (by decide) h16))
    have hpage : page <<< bb >>> 16 = page >>> (16 - bb) := by
      rw [show 16 = bb + (16 - bb) by omega, Nat.shiftRight_add, Nat.shiftLeft_shiftRight, Nat.add_sub_cancel_left]
    rw [Nat.shiftRight_or_distrib, hoffset, hpage, Nat.or_zero]
  have hmiddle : (page <<< bb ||| offset) >>> 8 = page <<< (bb - 8) ||| offset >>> 8 := by
    have hpage : page <<< bb >>> 8 = page <<< (bb - 8) := by
      rw [show page <<< bb = page <<< (bb - 8) <<< 8 by rw [← Nat.shiftLeft_add, Nat.sub_add_cancel h8],
        Nat.shiftLeft_shiftRight]
    rw [Nat.shiftRight_or_distrib, hpage]
  refine ⟨hfield, ?_⟩
  rw [bytes3_ofNat, hhigh, hmiddle, BitVec.ofNat_or, BitVec.ofNat_or, ofNat_shiftLeft_eq_zero h8, BitVec.zero_or]
  rfl

/-- Settles O5: the high byte holds the page's upper bits, the low byte the `16 - bb` below them. -/
theorem pageAddressRoundTrip : Obligations.PageAddressRoundTrip := by
  refine ⟨fun bb page h8 h11 hp => ?_, by decide⟩
  rw [toNat_encodePageAddress_fst h8 (by omega) hp, toNat_encodePageAddress_snd_shiftRight h8 (by omega),
    ← Nat.shiftLeft_add_eq_or_of_lt (Nat.mod_lt _ (Nat.two_pow_pos _)), Nat.shiftLeft_eq, Nat.shiftRight_eq_div_pow,
    Nat.div_add_mod']

/-- Settles O6: every operand's width and its shift add up to at most `bb + pb`. -/
theorem inRangeFieldsLoseNoBit : Obligations.InRangeFieldsLoseNoBit := by
  intro c i f b hc hg
  have hb := buffer_add_page_le_of_geometryFor hc hg
  have hs := sector_add_three_lt_page hc hg
  refine ⟨hb, fun page offset hp ho => ⟨toNat_pageField hb hp ho, ?_⟩, fun block hblock => ⟨?_, ?_⟩, rfl, ?_, ?_,
    fun n _ hn => ⟨toNat_sectorField_sn hb (by omega) hn, ?_⟩⟩
  · rw [toNat_pageField hb hp ho]
    exact Nat.append_lt ho hp
  · exact toNat_field_shiftLeft hblock (by omega)
  · exact toNat_field_shiftLeft_lt hblock (by omega) hb
  · rw [toNat_sectorField_s0B (by omega), Nat.one_shiftLeft]
  · exact toNat_field_shiftLeft_lt (m := 1) (by decide) (by omega) hb
  · exact toNat_field_shiftLeft_lt hn (by omega) hb

/-- Settles O7: a field gives its in-range sector back, so different sectors have different fields. -/
theorem sectorFieldsDisjoint : Obligations.SectorFieldsDisjoint := by
  intro c i f b n m hc hg hn1 hn hm1 hm
  have hb := buffer_add_page_le_of_geometryFor hc hg
  have hs := sector_add_three_lt_page hc hg
  have injective {x y : Sector} := sectorField_injective (x := x) (y := y) hb hs
  have hsn := sectorInRange_sn_iff.mpr ⟨hn1, hn⟩
  have hsm := sectorInRange_sn_iff.mpr ⟨hm1, hm⟩
  refine ⟨fun h => ?_, fun h => ?_, fun h => ?_, sectorField_s0B_and_sn hb hs hn, fun h => ?_⟩
  · cases injective rfl rfl h
  · cases injective rfl hsn h
  · cases injective rfl hsn h
  · cases injective hsn hsm h
    rfl

/-- Settles O8: the raw code is the status byte's own bits, and the index is what comes before it. -/
theorem densityIndexFollowsCode : Obligations.DensityIndexFollowsCode := by
  refine ⟨fun s i => ?_, fun s i => ?_, by decide⟩
  · simp only [densityIndex, mask38Shift3_eq, Option.ite_none_left_eq_some, Option.some.injEq]
    omega
  · simp only [densityIndex, mask3CShift2_eq, Option.ite_none_left_eq_some, Option.some.injEq]
    omega

/-- Settles O9: the table has seven rows, and a well-formed row's buffer width less the flag is at least 8. -/
theorem geometryContract : Obligations.GeometryContract := by
  intro c i hc
  refine ⟨fun hi f => ?_, fun hi f => ?_, by decide, by decide⟩
  · rw [geometryFor, Vector.getElem?_eq_none (by omega)]
  · obtain ⟨b, hb⟩ : ∃ b, geometryFor c.geom i f = some b := by
      rw [geometryFor, Vector.getElem?_eq_getElem hi]
      exact ⟨_, rfl⟩
    obtain ⟨g, hrow, hwf, hbuffer, hpage, hsector⟩ := row_of_geometryFor hc hb
    rw [Vector.getElem?_eq_getElem hi, Option.some.injEq] at hrow
    simp only [rowWellFormed, decide_eq_true_eq] at hwf
    have hflag := f.toNat_le
    subst hrow
    exact ⟨b, hb, by omega, hpage, hsector, by omega, by omega⟩

/-- Settles O41: the row plans the same job, because the field gives its block back. -/
theorem blockEraseWaitsThenStarts : Obligations.BlockEraseWaitsThenStarts := by
  intro s r block ps p d e rest ⟨hs, hr⟩ hc hl hblock hps hp hd he ha field t
  have ⟨_, f, hg⟩ := hl
  have hwidth := sector_add_three_lt_page hc hg
  have hback : blockOfField r.bits field = block :=
    blockOfField_blockField (buffer_add_page_le hc hl) (by omega) hblock
  have hrun : ∀ {plan : Cfg → Regs → Option Job}, plan s.cfg r = blockEraseJob block s.cfg r →
      whenReady plan s = .next t := fun hplan =>
    (whenReady_accepts hs hr (hplan.trans (if_pos (blockInRange_iff.mpr hblock)))).trans
      (congrArg _ (launch_wait_startedFrame hps hp hd he ha))
  refine ⟨hrun (plan := blockEraseJob block) rfl, ?_⟩
  rw [exec, execBlockEraseFrame]
  refine hrun ?_
  rw [hback]
  exact jobOfField_self _ _

/-- Settles O42: for every in-range sector the row plans the same job, because the field gives its sector back. -/
theorem sectorEraseWaitsThenStarts : Obligations.SectorEraseWaitsThenStarts := by
  intro s r ps p d e rest ⟨hs, hr⟩ hc hl hps hp hd he ha t
  have ⟨_, f, hg⟩ := hl
  have hwidth := sector_add_three_lt_page hc hg
  have hrun : ∀ {sector : Sector} {plan : Cfg → Regs → Option Job}, sectorInRange r.bits sector = true →
      plan s.cfg r = sectorEraseJob sector s.cfg r →
      whenReady plan s = .next (t sector (sectorField r.bits sector)) := fun hlegal hplan =>
    (whenReady_accepts hs hr (hplan.trans (if_pos hlegal))).trans
      (congrArg _ (launch_wait_startedFrame hps hp hd he ha))
  have hboth : ∀ {sector : Sector}, sectorInRange r.bits sector = true →
      exec (.sectorErase sector) s = .next (t sector (sectorField r.bits sector))
      ∧ exec (.sectorEraseFrame (sectorField r.bits sector)) s = .next (t sector (sectorField r.bits sector)) := by
    intro sector hlegal
    refine ⟨hrun (plan := sectorEraseJob sector) hlegal rfl, ?_⟩
    rw [exec, execSectorEraseFrame]
    refine hrun hlegal ?_
    rw [sectorOfField_sectorField (buffer_add_page_le hc hl) hwidth hlegal]
    exact jobOfField_self _ _
  exact ⟨hboth rfl, hboth rfl, fun n h1 hn => hboth (sectorInRange_sn_iff.mpr ⟨h1, hn⟩)⟩

end Sys2Proof.Machine
end

section
/-! The statements of spec/41_status_wait_id.md on the wait: `wait_until_ready` polls up to the first ready status, and
under a budget every operation that waits ends with `Timeout`. -/

namespace Sys2Proof.Machine

open Sys2Proof.Laws.FrameShape (addressFrame_length)

/-! ## Runs of a wait that ends, and of one that times out -/

/-- A run of `wait_until_ready`: a wait that ends normally and nothing after it (R154). -/
theorem launch_wait {s : State} {op : Instr} {v : Value} {ps : List Reply} {rest : List Answer}
    (hps : waitEnds s.cfg ps) (ha : s.answers = pollAnswers ps ++ rest) :
    s.launch ⟨op, wait s.cfg, v⟩ = s.returned rest (pollEvents s.cfg ps) op v := by
  obtain ⟨b, hwait⟩ := (s.setResponse none).settle_wait op 0 v [] hps rest
  rw [State.launch_eq, ha]
  refine hwait.trans ?_
  rw [State.settle_nil, State.drive_finish]
  rfl

/-- A frame and a start, let through (R195). -/
theorem State.drive_startedFrame (s : State) (op : Instr) (k : Nat) (v : Value) (todo : List Micro) (opcode : Byte)
    (field : Field) {pads : Nat} {p : Reply} {d e : Answer} (hp : p.good (4 + pads)) (hd : d.ok = true)
    (he : e.ok = true) (as : List Answer) :
    (s.settle op k v (startedFrame opcode field pads ++ todo)).drive (p.answers ++ d :: e :: as)
      = ((s.recorded (p.events (addressFrame opcode field pads) ++ startEvents)).settle op (k + 5) v todo).drive as := by
  rw [startedFrame, List.append_assoc, State.settle_frame,
    State.drive_frame_ignore _ _ _ _ _ _ ((addressFrame_length opcode field pads).symm ▸ hp), State.settle_start,
    State.drive_start _ _ _ _ _ hd he, State.recorded_append]

section timeout
variable {s : State} {ps : List Reply} {rest : List Answer} {n : Nat} (hb : allBusy s.cfg ps)
  (hc : s.cfg.pollBudget = some n) (hlen : ps.length = n) (hpos : 1 ≤ n)
include hb hc hlen hpos

/-- An operation that waits first and finds the chip busy throughout its budget sends nothing of its own (R153 (e)). -/
theorem launch_wait_timeout (ha : s.answers = pollAnswers ps ++ rest) (op : Instr) (todo : List Micro) (v : Value) :
    s.launch ⟨op, wait s.cfg ++ todo, v⟩ = s.raised rest (pollEvents s.cfg ps) .timeout := by
  rw [State.launch_eq, ha]
  exact (s.setResponse none).settle_wait_timeout op 0 v todo hb hc hlen hpos rest

/-- An operation that waits after a frame and a start, and times out there (R153 (e), R197). -/
theorem launch_startedFrame_wait_timeout {opcode : Byte} {field : Field} {pads : Nat} {p : Reply} {d e : Answer}
    (hp : p.good (4 + pads)) (hd : d.ok = true) (he : e.ok = true)
    (ha : s.answers = p.answers ++ [d, e] ++ pollAnswers ps ++ rest) (op : Instr) (todo : List Micro) (v : Value) :
    s.launch ⟨op, startedFrame opcode field pads ++ wait s.cfg ++ todo, v⟩
      = s.raised rest (p.events (addressFrame opcode field pads) ++ startEvents ++ pollEvents s.cfg ps) .timeout := by
  let started := (s.setResponse none).recorded (p.events (addressFrame opcode field pads) ++ startEvents)
  have hanswers : s.answers = p.answers ++ d :: e :: (pollAnswers ps ++ rest) := by simp [ha]
  have hwait := started.settle_wait_timeout op 5 v todo hb hc hlen hpos rest
  rw [State.launch_eq, hanswers, List.append_assoc, State.drive_startedFrame _ _ _ _ _ _ _ hp hd he]
  refine hwait.trans ?_
  rw [State.raised, State.raised, State.recorded_append s]
  rfl

end timeout

/-- `PROTECT(m)` waits first (R219). -/
theorem protect_eq_wait_append (c : Cfg) (m : Magic) :
    protect c m = wait c ++ .wp true :: (frame (magicFrame m c.dummy.protection) .ignore ++ [.desel, .wp false]) :=
  rfl

/-! ## The obligations -/

/-- Settles O31: a wait that ends is all the operation does. -/
theorem waitUntilReadyPolls : Obligations.WaitUntilReadyPolls := by
  intro s r ps rest ⟨hs, hr⟩ hps ha
  exact (whenReady_accepts (plan := waitUntilReadyJob) hs hr rfl).trans (congrArg _ (launch_wait hps ha))

/-- Settles O32: each plan is a wait and what comes after it; compare's frame and start come before. -/
theorem waitTimesOutUnderBudget : Obligations.WaitTimesOutUnderBudget := by
  intro s r ps rest n ⟨hs, hr⟩ hc hpos hlen hb
  constructor
  · intro ha t
    have hwaits : ∀ {plan : Cfg → Regs → Option Job} {op : Instr} {todo : List Micro},
        plan s.cfg r = some ⟨op, wait s.cfg ++ todo, .unit⟩ → whenReady plan s = .next t := fun hplan =>
      (whenReady_accepts hs hr hplan).trans (congrArg _ (launch_wait_timeout hb hc hlen hpos ha _ _ _))
    have hprotects : ∀ {plan : Cfg → Regs → Option Job} {m : Magic} {op : Instr},
        plan s.cfg r = some ⟨op, protect s.cfg m, .unit⟩ → whenReady plan s = .next t := fun hplan =>
      hwaits (hplan.trans (by rw [protect_eq_wait_append]))
    refine ⟨?_, fun b offset hbuffer hoffset => ?_, fun page hpage => ?_, fun block hblock => ?_,
      fun sector hsector => ?_, ?_, ?_, ?_⟩
    · exact hwaits (plan := waitUntilReadyJob) (todo := []) rfl
    · have hlegal := buffer_offset_legal_iff.mpr ⟨hbuffer, hoffset⟩
      exact ⟨hwaits (plan := bufferReadJob b offset) (if_pos hlegal),
        hwaits (plan := bufferWriteJob b offset) (if_pos hlegal)⟩
    · exact hwaits (plan := pageEraseJob page) (if_pos (pageInRange_iff.mpr hpage))
    · exact hwaits (plan := blockEraseJob block) (if_pos (blockInRange_iff.mpr hblock))
    · exact hwaits (plan := sectorEraseJob sector) (if_pos hsector)
    · exact hprotects (plan := enableProtectionJob) rfl
    · exact hprotects (plan := disableProtectionJob) rfl
    · exact hprotects (plan := eraseProtectionJob) rfl
  · intro b page p d e hbuffer hpage hp hd he ha
    have hlegal := buffer_page_legal_iff.mpr ⟨hbuffer, hpage⟩
    rw [← pageOnlyField_eq]
    exact (whenReady_accepts (plan := compareJob page b) hs hr (if_pos hlegal)).trans
      (congrArg _ (launch_startedFrame_wait_timeout hb hc hlen hpos hp hd he ha _ _ _))

end Sys2Proof.Machine
end

section
/-! The host's own moves of spec/42_read_write.md: payload streamed on the frame an operation left open (R175), and the
deselection that closes it (R176). -/

namespace Sys2Proof.Machine

/-! ## The host's moves -/

section hostMove
variable {s : State} {a : Answer} {as : List Answer} {rest : List HostMove} {out : List Byte}

/-- An idle step takes the host's exchange. -/
theorem step_of_hostXchg (hc : cfgWellFormed s.cfg = true) (hp : s.resetPin = false) (hs : s.seq = .idle)
    (hh : s.host = .xchg out :: rest) : step s = hostXchg out (s.setHost rest) := by
  simp only [step, nextTurn, hc, hp, hs, hh, if_true, Bool.false_eq_true, if_false]

/-- An idle step takes the host's deselection. -/
theorem step_of_hostDesel (hc : cfgWellFormed s.cfg = true) (hp : s.resetPin = false) (hs : s.seq = .idle)
    (hh : s.host = .desel :: rest) : step s = hostDesel (s.setHost rest) := by
  simp only [step, nextTurn, hc, hp, hs, hh, if_true, Bool.false_eq_true, if_false]

theorem State.nextAnswer_of_cons (ha : s.answers = a :: as) : s.nextAnswer = a := by
  simp only [State.nextAnswer, ha]

/-- On an open frame the exchange draws the first decided answer (R175). -/
theorem hostXchg_of_open (ho : s.frameOpen = true) (ha : s.answers = a :: as) :
    hostXchg out s
      = .next ((s.setAnswers as).recordAnswered (.hostXchg out (shiftedIn s.asked a out.length))) := by
  simp only [hostXchg, ho, if_true, State.nextAnswer_of_cons ha, ha, List.tail_cons]

/-- On no open frame the exchange is no move of the host (R281 (c)). -/
theorem hostXchg_of_closed (ho : s.frameOpen = false) : hostXchg out s = .refused .hostXchgWithoutOpenFrame := by
  simp only [hostXchg, ho, Bool.false_eq_true, if_false]

/-- The deselection draws the first decided answer, whether or not a frame is open (R176). -/
theorem hostDesel_of_cons (ha : s.answers = a :: as) :
    hostDesel s = .next ((s.setAnswers as).recordAnswered (.hostDesel a.ok)) := by
  simp only [hostDesel, State.nextAnswer_of_cons ha, ha, List.tail_cons]

end hostMove

/-! ## The obligation -/

/-- Settles O17: the step is the host's move, which records one event with the first decided answer; only a deselection
that answers `ok` moves the select line or closes the frame. -/
theorem hostStreamsOnOpenFrame : Obligations.HostStreamsOnOpenFrame := by
  intro s a as rest hc hp hs ha
  refine ⟨fun out hh ho hok hlen => ?_, fun out hh ho hfail => ?_, fun out hh ho => ?_, fun hh hok => ?_,
    fun hh hfail => ?_⟩
  · rw [step_of_hostXchg hc hp hs hh, hostXchg_of_open (s := s.setHost rest) ho ha, shiftedIn_of_length hok hlen]
    rfl
  · rw [step_of_hostXchg hc hp hs hh, hostXchg_of_open (s := s.setHost rest) ho ha, shiftedIn_eq_none.mpr hfail]
    rfl
  · exact (step_of_hostXchg hc hp hs hh).trans (hostXchg_of_closed ho)
  · rw [step_of_hostDesel hc hp hs hh, hostDesel_of_cons (s := s.setHost rest) ha, hok]
    rfl
  · rw [step_of_hostDesel hc hp hs hh, hostDesel_of_cons (s := s.setHost rest) ha, hfail]
    rfl

end Sys2Proof.Machine
end

section
/-! The statement of spec/43_transfer_erase_compare.md on `page_erase` (R192, R195): the wait, the frame, the start. -/

namespace Sys2Proof.Machine

/-- Settles O40: the row plans the same job, because the field gives its page back. -/
theorem pageEraseWaitsThenStarts : Obligations.PageEraseWaitsThenStarts := by
  intro s r page ps p d e rest ⟨hs, hr⟩ hc hl hpage hps hp hd he ha field t
  have hrun : ∀ {plan : Cfg → Regs → Option Job}, plan s.cfg r = pageEraseJob page s.cfg r →
      whenReady plan s = .next t := by
    intro plan hplan
    rw [pageEraseJob, pageOnlyField_eq, jobIf, if_pos (pageInRange_iff.mpr hpage)] at hplan
    exact (whenReady_accepts hs hr hplan).trans (congrArg _ (launch_wait_startedFrame hps hp hd he ha))
  exact ⟨hrun (plan := pageEraseJob page) rfl, hrun (ofPage_pageOnlyField hc hl hpage)⟩

end Sys2Proof.Machine
end

section
/-! The statements of spec/44_system.md on `setup` with an unsupported density, `end`, `set_erase_mode`, the recovery
from deep power-down, and `hard_reset`. -/

namespace Sys2Proof.Machine

open Sys2Proof.Laws.FrameShape (plainFrame_length)

/-! ## The operations that only write the handle -/

/-- In `Ready` the handle is written and nothing is emitted (R211, R212). -/
theorem writeHandle_accepts {f : Regs → Handle} {s : State} {r : Regs} (hs : s.seq = .idle)
    (hr : s.handle = .ready r) :
    writeHandle f s = .next { s with handle := f r, bw := .atRest, response := some (.ok .unit) } := by
  simp only [writeHandle, whenIdle, hs, hr]
  rfl

/-- Outside `Ready` such an operation is rejected (R243). -/
theorem writeHandle_rejects_phase {f : Regs → Handle} {s : State} (hs : s.seq = .idle)
    (hp : s.handle.phase ≠ .ready) : writeHandle f s = .next s.rejected := by
  simp only [writeHandle, whenIdle, hs]
  cases hr : s.handle with
  | ready r => exact absurd (congrArg Handle.phase hr) hp
  | uninitialized | failed => rfl

/-- The phase `Ready` is that of a handle with registers (R39). -/
theorem Handle.exists_regs_of_phase_ready {h : Handle} (hp : h.phase = .ready) : ∃ r, h = .ready r := by
  cases h with
  | ready r => exact ⟨r, rfl⟩
  | uninitialized | failed => cases hp

/-! ## An unsupported density -/

/-- In `Uninitialized` an idle DFCE accepts `setup` (R210). -/
theorem exec_setup_of_uninitialized {s : State} (hs : s.seq = .idle) (hu : s.handle = .uninitialized) :
    exec .setup s = .next (s.launch ⟨.setup, frame (statusFrame s.cfg) .density, .unit⟩) := by
  simp only [exec, execSetup, whenIdle, hs, hu]

/-- An unsupported density leaves phase `Failed` (R241). -/
theorem State.afterDensity_of_unsupported {s : State} (op : Instr) (k : Nat) (v : Value) (rest : List Micro)
    {status : Byte} (hi : densityIndex s.cfg.densityRule status = none) :
    s.afterDensity op k v rest status = (s.setHandle .failed).raiseError .setupFailure := by
  simp only [State.afterDensity, hi]

/-! ## The reset line -/

/-- Where a pin is needed and there is none, the reset call ends the operation with `false` (R215). -/
theorem State.drive_rst_of_noPin (s : State) (op : Instr) (k : Nat) (v : Value) (rest : List Micro) (active : Bool)
    {a : Answer} (h : a.pin = false) (as : List Answer) :
    (s.setSeq (.run op k (.rst active true :: rest) v)).drive (a :: as)
      = s.returned as [.rst active false] op (.bool false) := by
  rw [State.drive_busy (by simp)]
  simp only [State.advance, State.setSeq_seq, State.event, State.resetEvent, h, Bool.not_false, Bool.and_self, if_true]
  rw [State.drive_finish, State.recorded_of_answered (by rfl)]
  rfl

/-- With a pin, `hard_reset` runs through its six events; the second reset call may answer anything (R215). -/
theorem launch_hardReset {s : State} {a d b : Answer} {rest : List Answer} (hpin : a.pin = true) (hd : d.ok = true)
    (ha : s.answers = a :: d :: b :: rest) :
    s.launch ⟨.hardReset, [.rst true true, .sleep s.cfg.resetLowUs, .desel, .sleep s.cfg.resetSettleUs,
        .rst false false, .sleep s.cfg.resetRecoveryUs], .bool true⟩
      = s.returned rest
          [.rst true true, .sleep s.cfg.resetLowUs, .desel true, .sleep s.cfg.resetSettleUs, .rst false b.pin,
           .sleep s.cfg.resetRecoveryUs] .hardReset (.bool true) := by
  have hneeded : (true && !a.pin) = false := by rw [hpin]; rfl
  rw [State.launch_eq, ha, State.settle_rst, State.drive_rst _ _ _ _ _ _ _ hneeded, State.settle_sleep,
    State.settle_desel, State.drive_desel _ _ _ _ _ hd, State.settle_sleep, State.settle_rst,
    State.drive_rst _ _ _ _ _ _ _ rfl, State.settle_sleep, State.settle_nil, State.drive_finish, hpin]
  simp only [State.recorded_sleep, ← State.recorded_append]
  rfl

/-! ## The obligations -/

/-- Settles O27: the status frame, whose density is not supported. -/
theorem setupFailsOnUnsupportedDensity : Obligations.SetupFailsOnUnsupportedDensity := by
  intro s p rest hs hu hp ha hi
  let judged := (s.setResponse none).recorded (p.events (statusFrame s.cfg))
  have hstatus := (s.setResponse none).drive_status .setup 0 .unit [] .density hp (by decide) rest
  have hdensity := State.afterDensity_of_unsupported (s := judged) .setup 2 .unit [] hi
  rw [exec_setup_of_uninitialized hs hu, State.launch_eq, ha]
  exact congrArg _ (hstatus.trans ((congrArg (·.drive rest) hdensity).trans (State.drive_idle rfl rest)))

/-- Settles O45: the frame, the deselection, and the sleep before the operation returns; the row runs the same plan. -/
theorem resumeSleepsBeforeResponse : Obligations.ResumeSleepsBeforeResponse := by
  intro s r p d rest ⟨hs, hr⟩ hp hd ha t
  have hlen := plainFrame_length s.cfg.opc.resumeFromDeepPowerDown s.cfg.dummy.resume
  have hframe := (s.setResponse none).drive_frame_ignore .resumeFromDeepPowerDown 0 .unit
    [.desel, .sleep s.cfg.resumeDelayUs] _ (hlen ▸ hp) (d :: rest)
  have hrun : whenReady resumeJob s = .next t := by
    refine (whenReady_accepts hs hr rfl).trans (congrArg _ ?_)
    rw [State.launch_eq, ha, List.append_assoc]
    refine hframe.trans ?_
    rw [State.settle_desel, State.drive_desel _ _ _ _ _ hd, State.settle_sleep, State.recorded_sleep,
      ← State.recorded_append, ← State.recorded_append, State.settle_nil, State.drive_finish]
    rfl
  exact ⟨hrun, hrun⟩

/-- Settles O46: without a pin the first event ends the operation, with one all six are run. -/
theorem hardResetSequence : Obligations.HardResetSequence := by
  intro s r a rest ⟨hs, hr⟩
  have hrun := whenReady_accepts (plan := hardResetJob) hs hr rfl
  refine ⟨fun hpin ha => hrun.trans (congrArg _ ?_), fun d b hpin hd ha => ?_⟩
  · rw [State.launch_eq, ha, State.settle_rst, State.drive_rst_of_noPin _ _ _ _ _ _ hpin]
    rfl
  · exact hrun.trans (congrArg _ (launch_hardReset hpin hd ha))

/-- Settles O24: `end` is accepted in `Ready` alone, and its only write is the empty handle. -/
theorem endEmptiesHandle : Obligations.EndEmptiesHandle := by
  intro s hs
  refine ⟨fun hp => ?_, writeHandle_rejects_phase hs⟩
  obtain ⟨r, hr⟩ := Handle.exists_regs_of_phase_ready hp
  exact writeHandle_accepts hs hr

/-- Settles O25: as `end`, with the handle whose mode alone is new. -/
theorem setEraseModeWritesModeAlone : Obligations.SetEraseModeWritesModeAlone :=
  fun _ _ hs => ⟨fun _ hr => writeHandle_accepts hs hr, writeHandle_rejects_phase hs⟩

end Sys2Proof.Machine
end

section
/-! The statements of spec/60_exceptions.md: which requests are rejected before any event, which errors an accepted
operation can raise, and where in its events a `fail` stands. -/

namespace Sys2Proof.Machine

/-! ## Rejections -/

/-- Outside the phase it runs in, every row is rejected (R243, R254). -/
theorem exec_rejects_phase {i : Instr} {s : State} (hs : s.seq = .idle) (hp : s.handle.phase ≠ runPhase i) :
    exec i s = .next s.rejected := by
  cases exec_cases i s with
  | busy hb => exact absurd hs hb
  | rejected _ hx => exact hx
  | ended r _ hr hi => exact absurd (by rw [hr, hi]; rfl) hp
  | modeSet r m _ hr hi => exact absurd (by rw [hr, hi]; rfl) hp
  | setup j _ hr hi => exact absurd (by rw [hr, hi]; rfl) hp
  | accepted r j _ hr _ _ hns =>
    have hi : i ≠ .setup := fun e => hns (by rw [e]; rfl)
    exact absurd (by rw [hr, runPhase, if_neg hi]; rfl) hp

/-- A row whose plan has no job under any handle is rejected in every phase (R243, R245). -/
theorem whenReady_rejects_of_no_plan {plan : Cfg → Regs → Option Job} {s : State} (hs : s.seq = .idle)
    (hp : ∀ r, plan s.cfg r = none) : whenReady plan s = .next s.rejected := by
  rcases whenReady_cases (plan := plan) (s := s) with ⟨⟨op, k, todo, v, hrun⟩, -⟩ | ⟨-, hx⟩ | ⟨r, j, -, -, hj, -⟩
  · cases hs.symm.trans hrun
  · exact hx
  · cases (hp r).symm.trans hj

/-! ## The errors an operation can raise -/

/-- The errors the use of the shifted-in bytes can raise: `Timeout` by a poll under a budget (R153), `SetupFailure` by
the density (R241). -/
def Use.errors (budget : Option Nat) : Use → List ErrorKind
  | .poll => if budget.isSome then [.timeout] else []
  | .density => [.setupFailure]
  | .ignore | .latchId _ _ | .status | .ready | .id | .compare => []

/-- The errors an item can raise: `TransportFailure` by the calls that can answer `fail` (R242). -/
def Micro.errors (budget : Option Nat) : Micro → List ErrorKind
  | .desel | .sel => [.transportFailure]
  | .xchg _ u => .transportFailure :: u.errors budget
  | .rst _ _ | .wp _ | .sleep _ | .waitStart => []

/-- No item of the list can raise an error outside `es`. -/
def RaisesWithin (budget : Option Nat) (es : List ErrorKind) (todo : List Micro) : Prop :=
  ∀ m ∈ todo, m.errors budget ⊆ es

/-- The errors an accepted operation can raise: those of R262 but the rejection's. -/
def Kind.raises (budget : Option Nat) (k : Kind) : List ErrorKind :=
  (k.errors budget).filter (· ≠ .preconditionViolation)

theorem preconditionViolation_mem_errors (budget : Option Nat) (k : Kind) :
    .preconditionViolation ∈ k.errors budget := by
  cases budget <;> cases k <;> exact List.mem_cons_self

theorem preconditionViolation_not_mem_raises (budget : Option Nat) (k : Kind) :
    .preconditionViolation ∉ k.raises budget := by
  simp [Kind.raises]

/-- The event list of every kind of operation raises only the errors the table lists for it (R262). -/
theorem JobShape.raisesWithin {c : Cfg} {k : Kind} {todo : List Micro} {v : Value} (hj : JobShape c k todo v) :
    RaisesWithin c.pollBudget (k.raises c.pollBudget) todo := by
  cases hj <;> cases c.pollBudget <;>
    simp [RaisesWithin, frame, start, wait, poll, Micro.errors, Use.errors, Kind.raises, Kind.errors]

/-- An exchange sent as a whole frame raises no error the exchange alone does not. -/
theorem raisesWithin_frame {budget : Option Nat} {es : List ErrorKind} {out : List Byte} {u : Use}
    {rest : List Micro} (ht : .transportFailure ∈ es) (hu : u.errors budget ⊆ es)
    (hrest : RaisesWithin budget es rest) : RaisesWithin budget es (frame out u ++ rest) := by
  simp only [RaisesWithin, frame, List.cons_append, List.nil_append, List.forall_mem_cons, Micro.errors,
    List.cons_subset]
  exact ⟨⟨ht, List.nil_subset _⟩, ⟨ht, List.nil_subset _⟩, ⟨ht, hu⟩, hrest⟩

/-- The loop of a wait ends in `BW_TIMEOUT` only under a budget (R153 (e)). -/
theorem isSome_of_bwTest_timeout {budget : Option Nat} {ready : Bool} {b : Bw}
    (h : (bwTest budget ready b).state = .timeout) : budget.isSome = true := by
  cases ready with
  | true => cases h
  | false =>
    cases budget with
    | none => cases h
    | some n => rfl

/-! ## What an accepted operation has emitted and answered -/

/-- `t` is reached from `s` by events none of which was answered `fail`. -/
def NoneFailed (s t : State) : Prop := ∃ ds, t.trace = s.trace ++ ds ∧ ds.any Event.failed = false

theorem noneFailed_refl (s : State) : NoneFailed s s := ⟨[], by simp, rfl⟩

theorem NoneFailed.record {s t : State} {e : Event} (ht : NoneFailed s t) (he : e.failed = false) :
    NoneFailed s (t.record e) := by
  obtain ⟨ds, htrace, hds⟩ := ht
  exact ⟨ds ++ [e], by simp [htrace], by simp [hds, he]⟩

/-- How far an operation that can raise the errors `es` has come at `t`, from `s`: it goes on, or it has ended, and then
with `TransportFailure` exactly if an event was answered `fail`, which is its last (R242, R246). -/
inductive Accounted (es : List ErrorKind) (s t : State) : Prop
  | running (op : Instr) (k : Nat) (todo : List Micro) (v : Value) (hs : t.seq = .run op k todo v)
      (hr : t.response = none) (hn : NoneFailed s t) (he : RaisesWithin t.cfg.pollBudget es todo)
  | returned (v : Value) (hs : t.seq = .idle) (hr : t.response = some (.ok v)) (hn : NoneFailed s t)
  | raised (e : ErrorKind) (he : e ∈ es) (hne : e ≠ .transportFailure) (hs : t.seq = .idle)
      (hr : t.response = some (.err e)) (hn : NoneFailed s t)
  | failed (u : State) (e : Event) (ht : .transportFailure ∈ es) (hn : NoneFailed s u) (hf : e.failed = true)
      (h : t.trace = u.trace ++ [e]) (hs : t.seq = .idle) (hr : t.response = some (.err .transportFailure))

section accounted
variable {es : List ErrorKind} {s t : State}

theorem accounted_settle {todo : List Micro} (op : Instr) (k : Nat) (v : Value) (hr : t.response = none)
    (hn : NoneFailed s t) (he : RaisesWithin t.cfg.pollBudget es todo) :
    Accounted es s (t.settle op k v todo) := by
  induction todo generalizing t k with
  | nil => exact .returned v rfl rfl hn
  | cons m rest ih =>
    have hrest := (List.forall_mem_cons.mp he).2
    cases m with
    | sleep us => exact ih (t := t.record (.sleep us)) (k + 1) hr (hn.record rfl) hrest
    | waitStart => exact ih (t := t.setBw ⟨.issue, 0⟩) k hr hn hrest
    | _ => exact .running op k _ v rfl hr hn he

/-- A call answered `fail` ends the operation on the spot (R242, R246). -/
theorem accounted_fail {e : Event} (ht : .transportFailure ∈ es) (hn : NoneFailed s t) (he : e.failed = true) :
    Accounted es s ((t.recordAnswered e).raiseError .transportFailure) :=
  .failed t e ht hn he rfl rfl rfl

theorem accounted_lineEvent {rest : List Micro} (op : Instr) (k : Nat) (v : Value) {e : Event} {ok : Bool}
    (hok : e.failed = !ok) (hr : t.response = none) (hn : NoneFailed s t) (ht : .transportFailure ∈ es)
    (he : RaisesWithin t.cfg.pollBudget es rest) : Accounted es s (t.lineEvent op k v rest e ok) := by
  cases ok with
  | true => exact accounted_settle (t := t.recordAnswered e) op (k + 1) v hr (hn.record hok) he
  | false => exact accounted_fail ht hn hok

theorem accounted_useBytes {rest : List Micro} (op : Instr) (k : Nat) (v : Value) (inp : Nat → Byte) {u : Use}
    (hr : t.response = none) (hn : NoneFailed s t) (ht : .transportFailure ∈ es)
    (hu : u.errors t.cfg.pollBudget ⊆ es) (he : RaisesWithin t.cfg.pollBudget es rest) :
    Accounted es s (t.useBytes op k v rest inp u) := by
  cases u with
  | poll =>
    simp only [State.useBytes, State.afterPoll]
    split
    · exact accounted_settle (t := t.setBw _) op (k + 1) v hr hn he
    next hb =>
      have hmem : .timeout ∈ es := hu (by simp [Use.errors, isSome_of_bwTest_timeout hb])
      exact .raised .timeout hmem (by decide) rfl rfl hn
    all_goals exact .running op (k - 2) _ v rfl hr hn (raisesWithin_frame ht hu he)
  | density =>
    have hmem : .setupFailure ∈ es := hu (by simp [Use.errors])
    simp only [State.useBytes, State.afterDensity]
    split
    · exact .raised .setupFailure hmem (by decide) rfl rfl hn
    · split
      · exact .raised .setupFailure hmem (by decide) rfl rfl hn
      · exact accounted_settle op (k + 1) v hr hn (raisesWithin_frame ht (List.nil_subset _) he)
  | latchId index bits => exact accounted_settle (t := t.setHandle _) op (k + 1) v hr hn he
  | _ => exact accounted_settle op (k + 1) _ hr hn he

theorem accounted_event {todo : List Micro} (op : Instr) (k : Nat) (v : Value) (a : Answer) (hr : t.response = none)
    (hn : NoneFailed s t) (he : RaisesWithin t.cfg.pollBudget es todo) :
    Accounted es s (t.event op k v a todo) := by
  match todo with
  | [] | .sleep _ :: _ | .waitStart :: _ => exact accounted_settle op k v hr hn he
  | .desel :: rest =>
    obtain ⟨hm, hrest⟩ := List.forall_mem_cons.mp he
    exact accounted_lineEvent op k v rfl hr hn (hm List.mem_cons_self) hrest
  | .sel :: rest =>
    obtain ⟨hm, hrest⟩ := List.forall_mem_cons.mp he
    exact accounted_lineEvent op k v rfl hr hn (hm List.mem_cons_self) hrest
  | .xchg out u :: rest =>
    obtain ⟨hm, hrest⟩ := List.forall_mem_cons.mp he
    obtain ⟨ht, hu⟩ := List.cons_subset.mp hm
    simp only [State.event, State.exchange]
    split
    · exact accounted_fail ht hn rfl
    next bytes _ =>
      exact accounted_useBytes (t := t.recordAnswered (.xchg out (some bytes))) op k v _ hr (hn.record rfl) ht hu hrest
  | .rst active needed :: rest =>
    have hgo : NoneFailed s (t.recordAnswered (.rst active a.pin)) := hn.record rfl
    simp only [State.event, State.resetEvent]
    split
    · exact .returned (.bool false) rfl rfl hgo
    · exact accounted_settle (t := t.recordAnswered _) op (k + 1) v hr hgo (List.forall_mem_cons.mp he).2
  | .wp active :: rest =>
    exact accounted_settle (t := t.recordAnswered (.wp active a.pin)) op (k + 1) v hr (hn.record rfl)
      (List.forall_mem_cons.mp he).2

theorem Accounted.advance (ht : Accounted es s t) (hb : t.busy = true) (a : Answer) :
    Accounted es s (t.advance a) := by
  cases ht with
  | running op k todo v hs hr hn he =>
    rw [State.advance, hs]
    exact accounted_event op k v a hr hn he
  | returned _ hs | raised _ _ _ hs | failed _ _ _ _ _ _ hs => exact absurd hs (State.busy_iff.mp hb)

theorem Accounted.setAnswers (ht : Accounted es s t) (xs : List Answer) : Accounted es s (t.setAnswers xs) := by
  cases ht with
  | running op k todo v hs hr hn he => exact .running op k todo v hs hr hn he
  | returned v hs hr hn => exact .returned v hs hr hn
  | raised e he hne hs hr hn => exact .raised e he hne hs hr hn
  | failed u e ht hn hf h hs hr => exact .failed u e ht hn hf h hs hr

end accounted

theorem accounted_launch {s : State} {j : Job} {k : Kind} (hj : JobShape s.cfg k j.todo j.value) :
    Accounted (k.raises s.cfg.pollBudget) s (s.launch j) :=
  State.drive_induction
    (accounted_settle (t := s.setResponse none) j.op 0 j.value rfl (noneFailed_refl s) hj.raisesWithin)
    (fun _ a hb ht => ht.advance hb a) (fun _ xs ht => ht.setAnswers xs) s.answers

/-- A row is rejected, or what it has emitted and answered is accounted for by its kind. -/
theorem exec_accounted {i : Instr} {s t : State} (h : exec i s = .next t) :
    t = s.rejected ∨ Accounted ((kindOf i).raises s.cfg.pollBudget) s t := by
  cases exec_cases i s with
  | busy _ hx => cases h.symm.trans hx
  | rejected _ hx => cases h.symm.trans hx; exact .inl rfl
  | ended _ _ _ _ hx => cases h.symm.trans hx; exact .inr (.returned .unit rfl rfl (noneFailed_refl s))
  | modeSet _ _ _ _ _ hx => cases h.symm.trans hx; exact .inr (.returned .unit rfl rfl (noneFailed_refl s))
  | setup j _ _ hi _ hj hx => subst hi; cases h.symm.trans hx; exact .inr (accounted_launch hj)
  | accepted _ j _ _ _ _ _ hj hx => cases h.symm.trans hx; exact .inr (accounted_launch hj)

/-- The error answered by an operation that was accepted is one it can raise. -/
theorem Accounted.error_mem {es : List ErrorKind} {s t : State} {e : ErrorKind} (ht : Accounted es s t)
    (hr : t.response = some (.err e)) : e ∈ es := by
  cases ht with
  | running _ _ _ _ _ hr' => cases hr'.symm.trans hr
  | returned _ _ hr' => cases hr'.symm.trans hr
  | raised _ he _ _ hr' => cases hr'.symm.trans hr; exact he
  | failed _ _ he _ _ _ _ hr' => cases hr'.symm.trans hr; exact he

/-- `t` answers `TransportFailure` exactly if one of its events since `s` was answered `fail`, which is the last. -/
def FailIsLast (s t : State) : Prop :=
  ∃ ds, t.trace = s.trace ++ ds
    ∧ (t.response = some (.err .transportFailure) ↔ ds.any Event.failed = true)
    ∧ ds.dropLast.any Event.failed = false

theorem failIsLast_of_noneFailed {s t : State} (hn : NoneFailed s t)
    (hr : t.response ≠ some (.err .transportFailure)) : FailIsLast s t := by
  obtain ⟨ds, htrace, hds⟩ := hn
  refine ⟨ds, htrace, by simp [hr, hds], ?_⟩
  rw [List.any_eq_false] at hds ⊢
  exact fun e he => hds e (List.mem_of_mem_dropLast he)

theorem Accounted.failIsLast {es : List ErrorKind} {s t : State} (ht : Accounted es s t) : FailIsLast s t := by
  cases ht with
  | running _ _ _ _ _ hr hn => exact failIsLast_of_noneFailed hn (by simp [hr])
  | returned v _ hr hn => exact failIsLast_of_noneFailed hn (by simp [hr])
  | raised e _ hne _ hr hn => exact failIsLast_of_noneFailed hn (by simp [hr, hne])
  | failed u e _ hn hf h _ hr =>
    obtain ⟨ds, htrace, hds⟩ := hn
    exact ⟨ds ++ [e], by rw [h, htrace, List.append_assoc], by simp [hr, hf], by rw [List.dropLast_concat]; exact hds⟩

/-! ## The obligations -/

/-- Settles O19: `Uninitialized` is the phase of `setup`, `Ready` that of every other row. -/
theorem phaseCheckRejects : Obligations.PhaseCheckRejects := by
  intro i s hs
  refine ⟨fun hi hp => exec_rejects_phase hs ?_, fun hi hp => exec_rejects_phase hs ?_⟩
  · rwa [runPhase, if_pos hi]
  · rwa [runPhase, if_neg hi]

/-- Settles O20: with an operand out of range the row's plan has no job. -/
theorem operandRangeRejects : Obligations.OperandRangeRejects := by
  intro s r ⟨hs, hr⟩
  have reject : ∀ {plan : Cfg → Regs → Option Job}, plan s.cfg r = none → whenReady plan s = .next s.rejected :=
    whenReady_rejects_operands hs hr
  refine ⟨fun page offset h => ?_, fun b offset h => ?_, fun b page h => ?_, fun page h => ?_, fun block h => ?_,
    fun n h => ?_⟩
  · have hillegal : ¬ (pageInRange r.bits page && offsetInRange r.bits offset) = true := by
      rw [page_offset_legal_iff]
      omega
    exact ⟨reject (if_neg hillegal), reject (if_neg hillegal)⟩
  · have hillegal : ¬ (bufferNumLegal b && offsetInRange r.bits offset) = true := by
      rw [buffer_offset_legal_iff]
      omega
    exact ⟨reject (if_neg hillegal), reject (if_neg hillegal)⟩
  · have hillegal : ¬ (bufferNumLegal b && pageInRange r.bits page) = true := by
      rw [buffer_page_legal_iff]
      omega
    exact ⟨reject (if_neg hillegal), reject (if_neg hillegal), reject (if_neg hillegal)⟩
  · exact reject (if_neg (mt pageInRange_iff.mp (Nat.not_lt.mpr h)))
  · exact reject (if_neg (mt blockInRange_iff.mp (Nat.not_lt.mpr h)))
  · have hillegal : ¬ sectorInRange r.bits (.sn n) = true := by
      simp only [sectorInRange, decide_eq_true_eq]
      omega
    exact reject (if_neg hillegal)

/-- Settles O53: of the errors of R262 only the rejection's is raised by no accepted operation. -/
theorem preconditionViolationEmitsNothing : Obligations.PreconditionViolationEmitsNothing := by
  intro i s t h hr
  obtain ht | ht := exec_accounted h
  · exact ht
  · exact absurd (ht.error_mem hr) (preconditionViolation_not_mem_raises _ _)

/-- Settles O55: the error is the rejection's or one the accepted operation can raise. -/
theorem errorsOfEachOperation : Obligations.ErrorsOfEachOperation := by
  intro i s t e h hr
  obtain rfl | ht := exec_accounted h
  · cases hr
    exact preconditionViolation_mem_errors _ _
  · exact List.mem_of_mem_filter (ht.error_mem hr)

/-- Settles O56: a rejection emits nothing, and an accepted operation ends with the event answered `fail`. -/
theorem transportFailureIsLastEvent : Obligations.TransportFailureIsLastEvent := by
  intro i s t h
  obtain rfl | ht := exec_accounted h
  · exact failIsLast_of_noneFailed (noneFailed_refl s) nofun
  · exact ht.failIsLast

/-- Settles O21: the reserved rows are rejected outright, and no handle has a plan for the illegal sector kind. -/
theorem malformedRequestRejects : Obligations.MalformedRequestRejects := by
  intro s hs
  have hreject : whenIdle State.reject s = .next s.rejected := by
    simp only [whenIdle, hs]
    rfl
  exact ⟨hreject, fun _ => hreject,
    whenReady_rejects_of_no_plan (plan := sectorEraseJob .illegal) hs fun _ => rfl⟩

end Sys2Proof.Machine
end

section
/-! The statement of spec/70_reset_and_hazards.md: how many events each operation emits. -/

namespace Sys2Proof.Machine

/-! ## The lengths a list of items can come to -/

/-- `n` is the length of a trace that had length `m` before an operation of kind `k` and holds all its events now that
`v` is returned (R292). -/
def Kind.Allows (k : Kind) (m : Nat) (v : Value) (n : Nat) : Prop := ∃ p, 1 ≤ p ∧ n = m + k.eventCount p v

/-- With a trace of length `n`, and of length `m` before the operation, the items of the list can only come to a length
the table gives for `k`, whatever each of them makes of its answer; `v` is returned if none changes it. A poll may be
repeated `busy` times (R153), the density is judged by the third event and followed by an ID frame (R210), and
without a reset pin the operation ends there (R215). -/
def CountsTo (k : Kind) (m : Nat) (v : Value) (n : Nat) : List Micro → Prop
  | [] => k.Allows m v n
  | .waitStart :: rest => CountsTo k m v n rest
  | .xchg _ .poll :: rest => ∀ busy, CountsTo k m v (n + 1 + 3 * busy) rest
  | .xchg _ .density :: rest => n + 1 = m + 3 ∧ CountsTo k m v (n + 4) rest
  | .xchg _ .status :: rest | .xchg _ .ready :: rest | .xchg _ .id :: rest | .xchg _ .compare :: rest =>
    ∀ v', CountsTo k m v' (n + 1) rest
  | .rst _ needed :: rest =>
    (needed = true → k.Allows m (.bool false) (n + 1)) ∧ CountsTo k m v (n + 1) rest
  | .xchg _ .ignore :: rest | .xchg _ (.latchId _ _) :: rest | .desel :: rest | .sel :: rest | .wp _ :: rest
  | .sleep _ :: rest => CountsTo k m v (n + 1) rest

/-- The poll that follows a busy one is among those its exchange reckons with (R153). -/
theorem countsTo_poll {k : Kind} {m n : Nat} {v : Value} {out : List Byte} {rest : List Micro}
    (h : CountsTo k m v n (.xchg out .poll :: rest)) (c : Cfg) : CountsTo k m v (n + 1) (poll c ++ rest) := by
  intro busy
  have hnext := h (busy + 1)
  rwa [show n + 1 + 3 * (busy + 1) = n + 1 + 1 + 1 + 1 + 3 * busy by omega] at hnext

/-- A wait has `busy` polls that find the chip busy and one that does not; with no wait their number plays no part. -/
theorem Kind.allows_of_eq {k : Kind} {m n : Nat} {v : Value} (busy : Nat)
    (h : n = m + k.eventCount (busy + 1) v) : k.Allows m v n := ⟨busy + 1, Nat.le_add_left 1 busy, h⟩

/-- The event list of every kind of operation comes to the lengths the table gives for it (R292). -/
theorem JobShape.countsTo {c : Cfg} {k : Kind} {todo : List Micro} {v : Value} (hj : JobShape c k todo v) (m : Nat) :
    CountsTo k m v m todo := by
  cases hj with
  | setup => exact ⟨rfl, Kind.allows_of_eq 0 rfl⟩
  | readStatus | isReady | readId => exact fun _ => Kind.allows_of_eq 0 rfl
  | pageRead | arrayRead | bufferToPage | pageToBuffer | deepPowerDown | resume => exact Kind.allows_of_eq 0 rfl
  | waitUntilReady | bufferRead | bufferWrite | pageErase | blockErase | sectorErase | protection =>
    exact fun busy => Kind.allows_of_eq busy (by simp only [Kind.eventCount]; omega)
  | compare => exact fun busy _ => Kind.allows_of_eq busy (by simp only [Kind.eventCount]; omega)
  | hardReset => exact ⟨fun _ => Kind.allows_of_eq 0 rfl, nofun, Kind.allows_of_eq 0 rfl⟩

/-! ## What an accepted operation has emitted -/

theorem State.record_trace_length (t : State) (e : Event) : (t.record e).trace.length = t.trace.length + 1 := by simp

theorem State.recordAnswered_trace_length (t : State) (e : Event) :
    (t.recordAnswered e).trace.length = t.trace.length + 1 := t.record_trace_length e

/-- The response at `t` to an operation of kind `k`, accepted at `s`, fits the number of events since. -/
def CountFits (k : Kind) (s t : State) : Prop :=
  (∀ v, t.response = some (.ok v) → k.Allows s.trace.length v t.trace.length)
    ∧ (t.response = some (.err .setupFailure) → t.trace.length = s.trace.length + 3)

/-- How far an operation of kind `k`, accepted at `s`, has come at `t`. -/
inductive Counted (k : Kind) (s t : State) : Prop
  | running (op : Instr) (j : Nat) (todo : List Micro) (v : Value) (hs : t.seq = .run op j todo v)
      (hr : t.response = none) (hc : CountsTo k s.trace.length v t.trace.length todo)
  | ended (hs : t.seq = .idle) (h : CountFits k s t)

section counted
variable {k : Kind} {s t : State}

theorem counted_settle {todo : List Micro} (op : Instr) (j : Nat) (v : Value) (hr : t.response = none)
    (hc : CountsTo k s.trace.length v t.trace.length todo) : Counted k s (t.settle op j v todo) := by
  induction todo generalizing t j with
  | nil => exact .ended rfl ⟨fun v' hv => by cases hv; exact hc, nofun⟩
  | cons m rest ih =>
    cases m with
    | sleep us => exact ih (t := t.record (.sleep us)) (j + 1) hr (by rwa [State.record_trace_length])
    | waitStart => exact ih (t := t.setBw ⟨.issue, 0⟩) j hr hc
    | _ => exact .running op j _ v rfl hr hc

/-- The operation goes on after an event that got its answer. -/
theorem counted_settle_recordAnswered {todo : List Micro} (op : Instr) (j : Nat) (v : Value) (e : Event)
    (hr : t.response = none) (hc : CountsTo k s.trace.length v (t.trace.length + 1) todo) :
    Counted k s ((t.recordAnswered e).settle op j v todo) :=
  counted_settle (t := t.recordAnswered e) op j v hr (by rwa [State.recordAnswered_trace_length])

/-- Only after `SetupFailure` is the number of events of a failed operation known (R292). -/
theorem counted_raiseError {e : ErrorKind} (he : e = .setupFailure → t.trace.length = s.trace.length + 3) :
    Counted k s (t.raiseError e) :=
  .ended rfl ⟨nofun, fun hr => he (by cases hr; rfl)⟩

theorem counted_lineEvent {rest : List Micro} (op : Instr) (j : Nat) (v : Value) (e : Event) (ok : Bool)
    (hr : t.response = none) (hc : CountsTo k s.trace.length v (t.trace.length + 1) rest) :
    Counted k s (t.lineEvent op j v rest e ok) := by
  cases ok with
  | true => exact counted_settle_recordAnswered op (j + 1) v e hr hc
  | false => exact counted_raiseError nofun

theorem counted_useBytes {n : Nat} {rest : List Micro} (op : Instr) (j : Nat) (v : Value) (out : List Byte)
    (inp : Nat → Byte) {u : Use} (hr : t.response = none) (hn : t.trace.length = n + 1)
    (hc : CountsTo k s.trace.length v n (.xchg out u :: rest)) : Counted k s (t.useBytes op j v rest inp u) := by
  cases u with
  | poll =>
    simp only [State.useBytes, State.afterPoll]
    split
    · exact counted_settle (t := t.setBw _) op (j + 1) v hr (hn ▸ hc 0)
    · exact counted_raiseError nofun
    all_goals exact .running op (j - 2) _ v rfl hr (hn ▸ countsTo_poll hc t.cfg)
  | density =>
    obtain ⟨hthree, hrest⟩ := hc
    have hlen : t.trace.length = s.trace.length + 3 := hn.trans hthree
    simp only [State.useBytes, State.afterDensity]
    split
    · exact counted_raiseError fun _ => hlen
    · split
      · exact counted_raiseError fun _ => hlen
      · exact counted_settle op (j + 1) v hr (hn ▸ hrest)
  | ignore => exact counted_settle op (j + 1) v hr (hn ▸ hc)
  | latchId index bits => exact counted_settle (t := t.setHandle _) op (j + 1) v hr (hn ▸ hc)
  | _ => exact counted_settle op (j + 1) _ hr (hn ▸ hc _)

theorem counted_event {todo : List Micro} (op : Instr) (j : Nat) (v : Value) (a : Answer) (hr : t.response = none)
    (hc : CountsTo k s.trace.length v t.trace.length todo) : Counted k s (t.event op j v a todo) := by
  match todo with
  | [] | .sleep _ :: _ | .waitStart :: _ => exact counted_settle op j v hr hc
  | .desel :: rest | .sel :: rest => exact counted_lineEvent op j v _ a.ok hr hc
  | .wp active :: rest => exact counted_settle_recordAnswered op (j + 1) v _ hr hc
  | .xchg out u :: rest =>
    simp only [State.event, State.exchange]
    split
    · exact counted_raiseError nofun
    next bytes _ =>
      exact counted_useBytes (t := t.recordAnswered (.xchg out (some bytes))) op j v out _ hr
        (t.recordAnswered_trace_length _) hc
  | .rst active needed :: rest =>
    obtain ⟨hnoPin, hrest⟩ := hc
    simp only [State.event, State.resetEvent]
    split
    next hp =>
      obtain ⟨hneeded, -⟩ := Bool.and_eq_true_iff.mp hp
      exact counted_settle_recordAnswered (todo := []) op j (.bool false) _ hr (hnoPin hneeded)
    next => exact counted_settle_recordAnswered op (j + 1) v _ hr hrest

theorem Counted.advance (ht : Counted k s t) (hb : t.busy = true) (a : Answer) : Counted k s (t.advance a) := by
  cases ht with
  | running op j todo v hs hr hc =>
    rw [State.advance, hs]
    exact counted_event op j v a hr hc
  | ended hs => exact absurd hs (State.busy_iff.mp hb)

theorem Counted.setAnswers (ht : Counted k s t) (xs : List Answer) : Counted k s (t.setAnswers xs) := by
  cases ht with
  | running op j todo v hs hr hc => exact .running op j todo v hs hr hc
  | ended hs h => exact .ended hs h

/-- An operation still in progress has not answered. -/
theorem Counted.countFits (ht : Counted k s t) : CountFits k s t := by
  cases ht with
  | running _ _ _ _ _ hr => exact ⟨fun v hv => (by cases hr.symm.trans hv), fun he => (by cases hr.symm.trans he)⟩
  | ended _ h => exact h

end counted

theorem counted_launch {s : State} {j : Job} {k : Kind} (hj : JobShape s.cfg k j.todo j.value) :
    Counted k s (s.launch j) :=
  State.drive_induction (counted_settle (t := s.setResponse none) j.op 0 j.value rfl (hj.countsTo s.trace.length))
    (fun _ a hb ht => ht.advance hb a) (fun _ xs ht => ht.setAnswers xs) s.answers

/-- Every row answers in keeping with the number of its events. -/
theorem exec_countFits {i : Instr} {s t : State} (h : exec i s = .next t) : CountFits (kindOf i) s t := by
  cases exec_cases i s with
  | busy _ hx => cases h.symm.trans hx
  | rejected _ hx => cases h.symm.trans hx; exact ⟨nofun, nofun⟩
  | ended _ _ _ hi hx => subst hi; cases h.symm.trans hx; exact ⟨fun _ _ => Kind.allows_of_eq 0 rfl, nofun⟩
  | modeSet _ _ _ _ hi hx => subst hi; cases h.symm.trans hx; exact ⟨fun _ _ => Kind.allows_of_eq 0 rfl, nofun⟩
  | setup j _ _ hi _ hj hx => subst hi; cases h.symm.trans hx; exact (counted_launch hj).countFits
  | accepted _ j _ _ _ _ _ hj hx => cases h.symm.trans hx; exact (counted_launch hj).countFits

/-! ## The obligation -/

/-- Settles O57: at every event the items still to come can only lead to a length the table gives. -/
theorem eventCounts : Obligations.EventCounts :=
  ⟨fun _ _ _ v h => (exec_countFits h).1 v, fun _ _ _ h => (exec_countFits h).2⟩

end Sys2Proof.Machine
end
